-- ==== Sys2Proof/Word.lean ====
section
/-!
DEFINITION. The words of the block (widths of `10_state.md`, `20_memory.md` and `30_encoding.md`) and the one
container helper every array of the block is built with.
-/

namespace Sys2Proof

/-- One byte of the tile/map memory (`20_memory.md` R40, space VRAM). -/
abbrev Byte := BitVec 8

/-- A VRAM byte address: VRAM_ADDR_BITS = 32 (`00_scope.md` R4, `20_memory.md` R40). -/
abbrev Addr := BitVec 32

/-- A raw palette colour: 16 bits (`30_encoding.md` R75). -/
abbrev RawColour := BitVec 16

/-- A display colour: 32 bits (`30_encoding.md` R76). -/
abbrev Colour := BitVec 32

/-- A command word: 64 bits (`30_encoding.md` R70). -/
abbrev CommandWord := BitVec 64

/-- A line number: 9 bits (`10_state.md` R13, `30_encoding.md` R72). -/
abbrev Line := BitVec 9

/-- One row of 256 pixel colours (`10_state.md` R29). -/
abbrev Row := Vector Colour 256

/-- The array whose entry `i` is `f i`. -/
def tabulate {α : Type} (n : Nat) (f : Fin n → α) : Vector α n :=
  ⟨(List.ofFn f).toArray, by simp⟩

@[simp] theorem getElem_tabulate {α : Type} (n : Nat) (f : Fin n → α) (i : Nat) (h : i < n) :
    (tabulate n f)[i] = f ⟨i, h⟩ := by
  simp [tabulate]

end Sys2Proof
end

