-- ==== Sys2Proof/Config.lean ====
section
/-!
DEFINITION. The parameters of the block (`00_scope.md` R4, R5), the record of configuration registers that the
open functions read, and the values the spec leaves open: the bitmap/extended samplers (`42_compositor.md` R148),
the second pixel row (R149) and the line buffers after power-on (`10_state.md` R29). The open ones are opaque
constants with no body: nothing can be proved of their values.
-/

namespace Sys2Proof

/-! ### Fixed parameters (R4) -/

/-- LINES_TOTAL = 263 (R4). -/
abbrev linesTotal : Nat := 263

/-- LINES_ACTIVE = 192 (R4). -/
abbrev linesActive : Nat := 192

/-- FB_SCREEN = SCREEN_W x SCREEN_H = 49152 entries (R5). -/
abbrev fbScreen : Nat := 49152

/-- FB_SIZE = N_SCREENS x FB_SCREEN = 98304 entries (R5). -/
abbrev fbSize : Nat := 98304

/-- FB_CLEAR, the value of a cleared frame-buffer entry (R4, `10_state.md` R30). -/
def fbClear : Colour := 0x00000000#32

/-! ### The open cycle thresholds (R4, R5) -/

/-- The OPEN thresholds CYC_LINE and CYC_DRAW with the constraints R5 demands of any choice: they are an argument of
the model, so every statement about the machine holds for all admissible values. -/
structure Thresholds where
  /-- CYC_LINE, the length of a scanline period in cycles. -/
  cycLine : Nat
  /-- CYC_DRAW, the length of the Draw sub-range of a scanline period. -/
  cycDraw : Nat
  draw_pos : 0 < cycDraw
  draw_lt_line : cycDraw < cycLine
  frame_fits : 263 * cycLine ≤ 2 ^ 20
  deriving DecidableEq, Repr

/-- CYC_ACTIVE = LINES_ACTIVE x CYC_LINE (R5). -/
def Thresholds.cycActive (p : Thresholds) : Nat := linesActive * p.cycLine

/-- CYC_FRAME = LINES_TOTAL x CYC_LINE (R5). -/
def Thresholds.cycFrame (p : Thresholds) : Nat := linesTotal * p.cycLine

/-- The defaults of R4: CYC_LINE = 2130, CYC_DRAW = 1536. -/
def Thresholds.default : Thresholds :=
  ⟨2130, 1536, by decide, by decide, by decide⟩

/-! ### The configuration register file, as the open functions see it -/

/-- The five 32-bit registers of one background layer (`10_state.md` R18, R20 to R23). -/
@[ext] structure LayerRegs where
  /-- BGCTL[l] (R20). -/
  bgctl : BitVec 32
  /-- BGTILEBASE[l] (R21). -/
  tileBase : BitVec 32
  /-- BGMAPBASE[l] (R22). -/
  mapBase : BitVec 32
  /-- BGSCROLLX[l] (R23). -/
  scrollX : BitVec 32
  /-- BGSCROLLY[l] (R23). -/
  scrollY : BitVec 32
  deriving DecidableEq, Repr

/-- The register file `cfg` of 21 registers (`10_state.md` R10 (2), R18). -/
@[ext] structure CfgRegs where
  /-- DISPCTL (R19). -/
  dispctl : BitVec 32
  /-- The registers of the layers 0..3. -/
  layers : Vector LayerRegs 4
  deriving DecidableEq, Repr

/-- A sample of a layer at one pixel (`42_compositor.md` R140). -/
inductive Sample where
  /-- The layer contributes nothing here. -/
  | transparent
  /-- A palette index. -/
  | indexed (i : BitVec 8)
  /-- A raw 16-bit colour (bitmap/extended modes only). -/
  | direct (r : RawColour)
  deriving DecidableEq, Repr, Inhabited

/-- The four bitmap/extended display modes 2, 3, 4, 5 (`30_encoding.md` R80). -/
inductive ExtMode where
  | mode2 | mode3 | mode4 | mode5
  deriving DecidableEq, Repr

/-! ### Open functions and free values -/

/-- ExtSample (`42_compositor.md` R148): OPEN, a function of its arguments only (mode, cfg, VRAM contents, layer, x, y). -/
opaque Config.extSample : ExtMode → CfgRegs → (Addr → Byte) → Fin 4 → Fin 256 → Line → Sample

/-- RowB (`42_compositor.md` R149): OPEN, a function of its arguments only (cfg, VRAM contents, derived, y). -/
opaque Config.rowB : CfgRegs → (Addr → Byte) → Vector Colour 256 → Line → Row

/-- The unspecified contents of ScanlineBuffer A after power-on (`10_state.md` R29): an arbitrary fixed value an entry. -/
opaque Config.powerOnA : Fin 256 → Colour

/-- The unspecified contents of ScanlineBuffer B after power-on (`10_state.md` R29): an arbitrary fixed value an entry. -/
opaque Config.powerOnB : Fin 256 → Colour

end Sys2Proof
end

