-- ==== Sys2Proof/Syntax.lean ====
section
/-!
DEFINITION. The nine operations of the block (`30_encoding.md` R71), one constructor per row of the opcode table,
the configuration registers a command can name, and the reasons a command word is reserved (R83).
-/

namespace Sys2Proof

/-- The 21 configuration registers (`10_state.md` R18). -/
inductive CfgReg where
  | dispctl
  | bgctl (l : Fin 4)
  | bgtilebase (l : Fin 4)
  | bgmapbase (l : Fin 4)
  | bgscrollx (l : Fin 4)
  | bgscrolly (l : Fin 4)
  deriving DecidableEq, Repr

/-- The operations (`30_encoding.md` R71) with their operands (R72). -/
inductive Instr where
  /-- ADVANCE: one hardware cycle (`40_timing.md` R101). -/
  | advance
  /-- RESET: power-on defaults (`44_control_ops.md` R190). -/
  | reset
  /-- PALWR i, v: external palette write (`41_palette.md` R121). -/
  | palwr (i : BitVec 8) (v : RawColour)
  /-- CFGWR r, v: external configuration write (`44_control_ops.md` R191). -/
  | cfgwr (r : CfgReg) (v : BitVec 32)
  /-- REFRESH: recompute the dirty palette entries (`41_palette.md` R122). -/
  | refresh
  /-- RENDER y: fill the line buffers (`42_compositor.md` R135). -/
  | render (y : Line)
  /-- LINECOPY y: line buffers into the frame buffer (`43_framebuffer.md` R170). -/
  | linecopy (y : Line)
  /-- LINEFILL y: white line into the frame buffer (`43_framebuffer.md` R171). -/
  | linefill (y : Line)
  /-- PRESENT: hand the frame buffer to the sink (`43_framebuffer.md` R173). -/
  | present
  deriving DecidableEq, Repr

/-- Why a command word is reserved (`30_encoding.md` R83). -/
inductive Reserved where
  /-- op is 0x0 or 0xA..0xF. -/
  | reservedOp
  /-- A must-be-zero bit of `z`, `a` or `d` is set. -/
  | mustBeZero
  /-- CFGWR to an undefined register index. -/
  | undefinedRegister
  /-- RENDER with y > 262, LINECOPY or LINEFILL with y > 191. -/
  | lineOutOfRange
  deriving DecidableEq, Repr

end Sys2Proof
end

