-- ==== Sys2Proof/WellFormed.lean ====
section
/-!
DEFINITION. The value constraints of `30_encoding.md` R72 on an operation's operands. A register operand is
well formed by its type (`CfgReg` holds the 21 defined registers only); a line number has a limit to check.
-/

namespace Sys2Proof

/-- RENDER takes y <= 262 (R72). -/
abbrev renderLineOk (y : Line) : Prop := y.toNat ≤ 262

/-- LINECOPY and LINEFILL take y <= 191 (R72). -/
abbrev copyLineOk (y : Line) : Prop := y.toNat ≤ 191

/-- The operands of `i` meet the value constraints of R72. -/
def Instr.wellFormed (i : Instr) : Bool :=
  match i with
  | .advance => true
  | .reset => true
  | .palwr _ _ => true
  | .cfgwr _ _ => true
  | .refresh => true
  | .render y => decide (renderLineOk y)
  | .linecopy y => decide (copyLineOk y)
  | .linefill y => decide (copyLineOk y)
  | .present => true

end Sys2Proof
end

