-- ==== Sys2Proof/Decode.lean ====
section
/-!
DEFINITION. The command word (`30_encoding.md` R70 to R72, R83, R88): the decoder, total on any word and rejecting by
name, the encoder written from the same table, and the match/mask table of R88 itself.
-/

namespace Sys2Proof

/-! ### Fields of a command word (R70) -/

/-- op, bits 63:60. -/
def CommandWord.op (w : CommandWord) : BitVec 4 := w.extractLsb' 60 4

/-- a, bits 59:48. -/
def CommandWord.a (w : CommandWord) : BitVec 12 := w.extractLsb' 48 12

/-- z, bits 47:32. -/
def CommandWord.z (w : CommandWord) : BitVec 16 := w.extractLsb' 32 16

/-- d, bits 31:0. -/
def CommandWord.d (w : CommandWord) : BitVec 32 := w.extractLsb' 0 32

/-- The word with the fields op, a, d and z = 0. -/
def commandWord (op : BitVec 4) (a : BitVec 12) (d : BitVec 32) : CommandWord :=
  (op ++ a ++ 0#16 ++ d : BitVec (4 + 12 + 16 + 32))

/-! ### Register indices (`10_state.md` R18) -/

/-- The index of register number `k` of layer `l`: 0x010 + k + 0x10 x l. -/
def layerRegIndex (k : Nat) (l : Fin 4) : BitVec 12 := BitVec.ofNat 12 (0x010 + k + 0x10 * l.val)

/-- The register index of R18. -/
def CfgReg.index (r : CfgReg) : BitVec 12 :=
  match r with
  | .dispctl => 0x000#12
  | .bgctl l => layerRegIndex 0 l
  | .bgtilebase l => layerRegIndex 1 l
  | .bgmapbase l => layerRegIndex 2 l
  | .bgscrollx l => layerRegIndex 3 l
  | .bgscrolly l => layerRegIndex 4 l

/-- The five registers of layer `l`. -/
def layerRegs (l : Fin 4) : List CfgReg :=
  [.bgctl l, .bgtilebase l, .bgmapbase l, .bgscrollx l, .bgscrolly l]

/-- The 21 defined registers (R18). -/
def definedRegs : List CfgReg :=
  .dispctl :: (layerRegs 0 ++ layerRegs 1 ++ layerRegs 2 ++ layerRegs 3)

/-- The register with index `a`; none for the indices R18 reserves. -/
def cfgRegAt (a : BitVec 12) : Option CfgReg := definedRegs.find? fun r => r.index == a

/-! ### The decoder -/

/-- An operation without operands: `a` and `d` must be zero (R72). -/
def decodeBare (i : Instr) (w : CommandWord) : Except Reserved Instr :=
  if w.a = 0#12 ∧ w.d = 0#32 then .ok i else .error .mustBeZero

/-- An operation with a line number: a[11:9] = 0, d = 0, and the line within `limit` (R72). -/
def decodeLine (mk : Line → Instr) (limit : Nat) (w : CommandWord) : Except Reserved Instr :=
  let y : Line := w.a.extractLsb' 0 9
  if w.a.extractLsb' 9 3 = 0#3 ∧ w.d = 0#32 then
    if y.toNat ≤ limit then .ok (mk y) else .error .lineOutOfRange
  else .error .mustBeZero

/-- PALWR: a[11:8] = 0, d[31:16] = 0 (R72). -/
def decodePalwr (w : CommandWord) : Except Reserved Instr :=
  if w.a.extractLsb' 8 4 = 0#4 ∧ w.d.extractLsb' 16 16 = 0#16 then
    .ok (.palwr (w.a.extractLsb' 0 8) (w.d.extractLsb' 0 16))
  else .error .mustBeZero

/-- CFGWR: `a` is a defined register index (R72, R18). -/
def decodeCfgwr (w : CommandWord) : Except Reserved Instr :=
  match cfgRegAt w.a with
  | some r => .ok (.cfgwr r w.d)
  | none => .error .undefinedRegister

/-- The operation field of a word whose `z` is zero (R71). -/
def decodeOp (w : CommandWord) : Except Reserved Instr :=
  match w.op.toNat with
  | 0x1 => decodeBare .advance w
  | 0x2 => decodeBare .reset w
  | 0x3 => decodePalwr w
  | 0x4 => decodeCfgwr w
  | 0x5 => decodeBare .refresh w
  | 0x6 => decodeLine .render 262 w
  | 0x7 => decodeLine .linecopy 191 w
  | 0x8 => decodeLine .linefill 191 w
  | 0x9 => decodeBare .present w
  | _ => .error .reservedOp

/-- The command a word spells, or why it is reserved (R70 to R72, R83). -/
def decode (w : CommandWord) : Except Reserved Instr :=
  if w.z = 0#16 then decodeOp w else .error .mustBeZero

/-! ### The encoder -/

/-- The operation code of R71. -/
def Instr.opcode (i : Instr) : BitVec 4 :=
  match i with
  | .advance => 0x1#4
  | .reset => 0x2#4
  | .palwr _ _ => 0x3#4
  | .cfgwr _ _ => 0x4#4
  | .refresh => 0x5#4
  | .render _ => 0x6#4
  | .linecopy _ => 0x7#4
  | .linefill _ => 0x8#4
  | .present => 0x9#4

/-- The `a` field of R72. -/
def Instr.fieldA (i : Instr) : BitVec 12 :=
  match i with
  | .advance => 0#12
  | .reset => 0#12
  | .palwr i _ => i.setWidth 12
  | .cfgwr r _ => r.index
  | .refresh => 0#12
  | .render y => y.setWidth 12
  | .linecopy y => y.setWidth 12
  | .linefill y => y.setWidth 12
  | .present => 0#12

/-- The `d` field of R72. -/
def Instr.fieldD (i : Instr) : BitVec 32 :=
  match i with
  | .advance => 0#32
  | .reset => 0#32
  | .palwr _ v => v.setWidth 32
  | .cfgwr _ v => v
  | .refresh => 0#32
  | .render _ => 0#32
  | .linecopy _ => 0#32
  | .linefill _ => 0#32
  | .present => 0#32

/-- The command word of a well-formed instruction (R70 to R72). -/
def encode (i : Instr) : CommandWord := commandWord i.opcode i.fieldA i.fieldD

/-! ### The match and mask table (R88) -/

/-- The mnemonic of R71. -/
def Instr.mnemonic (i : Instr) : String :=
  match i with
  | .advance => "ADVANCE"
  | .reset => "RESET"
  | .palwr _ _ => "PALWR"
  | .cfgwr _ _ => "CFGWR"
  | .refresh => "REFRESH"
  | .render _ => "RENDER"
  | .linecopy _ => "LINECOPY"
  | .linefill _ => "LINEFILL"
  | .present => "PRESENT"

/-- One row of R88: a word spells the operation iff `word AND mask = pattern` and the value constraint holds. -/
structure OpcodeRow where
  mnemonic : String
  pattern : CommandWord
  mask : CommandWord
  deriving DecidableEq, Repr

/-- The nine rows of R88. -/
def opcodeTable : List OpcodeRow :=
  [⟨"ADVANCE", 0x1000000000000000#64, 0xFFFFFFFFFFFFFFFF#64⟩,
   ⟨"RESET", 0x2000000000000000#64, 0xFFFFFFFFFFFFFFFF#64⟩,
   ⟨"PALWR", 0x3000000000000000#64, 0xFF00FFFFFFFF0000#64⟩,
   ⟨"CFGWR", 0x4000000000000000#64, 0xF000FFFF00000000#64⟩,
   ⟨"REFRESH", 0x5000000000000000#64, 0xFFFFFFFFFFFFFFFF#64⟩,
   ⟨"RENDER", 0x6000000000000000#64, 0xFE00FFFFFFFFFFFF#64⟩,
   ⟨"LINECOPY", 0x7000000000000000#64, 0xFE00FFFFFFFFFFFF#64⟩,
   ⟨"LINEFILL", 0x8000000000000000#64, 0xFE00FFFFFFFFFFFF#64⟩,
   ⟨"PRESENT", 0x9000000000000000#64, 0xFFFFFFFFFFFFFFFF#64⟩]

/-! ### The decoder on an opcode-table word -/

/-- The instruction the decoder reads from the table's word `w` of `nbits` bits, every higher bit zero; a command is one
64-bit word handed over whole, so there is no byte order to lay out (R70). -/
def decodeTableWord (nbits w : Nat) : Option Instr :=
  if w % 2 ^ nbits < 2 ^ 64 then (decode (BitVec.ofNat 64 (w % 2 ^ nbits))).toOption else none

end Sys2Proof
end

