-- ==== Sys2Proof/Machine/State.lean ====
section
/-!
DEFINITION. The state of the block (`10_state.md` R10), the inputs (R32) and the output record (R33) beside it, the
reasons a step stops, and the state after reset (R34).
-/

namespace Sys2Proof.Machine

/-- The timing mode (`10_state.md` R12, `30_encoding.md` R73). -/
inductive Mode where
  | draw | hblank | vblank
  deriving DecidableEq, Repr

/-- A phase-change event with its line number (`10_state.md` R33, `30_encoding.md` R74). -/
inductive PhaseEvent where
  | enterDraw (y : Line)
  | enterHBlank (y : Line)
  | enterVBlank (y : Line)
  deriving DecidableEq, Repr

/-- FrameBuffer: the 98304 entries of `10_state.md` R30 as two screens of 192 rows of 256 entries; entry `k` in the
order of `20_memory.md` R44 is `FrameBuffer.entry`. -/
@[ext]
structure FrameBuffer where
  /-- The first screen region, entries 0..49151. -/
  screenA : Vector Row 192
  /-- The second screen region, entries 49152..98303. -/
  screenB : Vector Row 192
  deriving DecidableEq, Repr

/-- The output record Out of one command (`10_state.md` R33). -/
@[ext]
structure Out where
  /-- evt_o and evt_line_o. -/
  event : Option PhaseEvent
  /-- diag_pulse_o: the diagnostics this command raised. -/
  diagPulse : BitVec 2
  /-- The frame handed to the Presentation Sink by this command. -/
  frame : Option FrameBuffer
  deriving DecidableEq, Repr

/-- event None, diagPulse 0, frame None. -/
def Out.none : Out := { event := Option.none, diagPulse := 0#2, frame := Option.none }

/-- VRAM contents: address and byte pairs, addresses strictly rising, no entry 0x00 (what an unlisted address reads
as: DESIGN CHOICE, unsafe for claims about the one VRAM of `State.reset`, log entry 3). -/
abbrev Memory := List Host.Cell

/-- One item of the input stream (`10_state.md` R32): what the memory collaborator changed in VRAM since the command
before, the level of `sink_ok_i` during the command, and the command word. -/
structure StreamItem where
  vramWrites : List (Addr × Byte)
  sinkOk : Bool
  word : CommandWord
  deriving DecidableEq, Repr

/-- The block's state, then the inputs and the output record, which the spec does not count as state of the block
(R10, R32, R33) and which stand here because a step takes and answers a State only. -/
@[ext]
structure State where
  /-- R11. -/
  cycleCounter : BitVec 20
  /-- R12. -/
  mode : Mode
  /-- R13. -/
  scanlineIndex : Line
  /-- R18 to R23. -/
  cfg : CfgRegs
  /-- R24: bit 0 unsupportedMode, bit 1 presentFail. -/
  diag : BitVec 2
  /-- R25. -/
  raw : Vector RawColour 256
  /-- R26. -/
  derived : Vector Colour 256
  /-- R27. -/
  dirty : Vector Bool 256
  /-- ScanlineBuffer A, R29. -/
  lineA : Row
  /-- ScanlineBuffer B, R29. -/
  lineB : Row
  /-- FB, R30. -/
  fb : FrameBuffer
  /-- Input: the OPEN thresholds (`00_scope.md` R4, R5); no step writes them. -/
  thresholds : Thresholds
  /-- Input: the tile/map memory (R32 (b)). -/
  vram : Memory
  /-- Input: the sink's answer (R32 (c)). -/
  sinkOk : Bool
  /-- Input: the commands to come (R32 (a)). -/
  stream : List StreamItem
  /-- Output record of the command just executed (R33). -/
  out : Out
  deriving DecidableEq, Repr

/-- Why the machine stops with a fault: never. "Nothing in this block is a `fault` or a `stuck` state"
(`93_implementation_defined.md`, Part 1), so the type has no constructor and no step can fault. -/
inductive Fault where
  deriving DecidableEq, Repr

/-- Why a step gives no meaning. -/
inductive Refusal where
  /-- Raised by an arm of `exec` whose instruction has no meaning yet (none is left). Safe: nothing is claimed. -/
  | notModelled (mnemonic : String)
  /-- Raised by `step` on a reserved command word and by RENDER, LINECOPY and LINEFILL on a reserved line number
  (`30_encoding.md` R83, `44_control_ops.md` R193). Safe: the spec gives such a command no meaning. -/
  | reservedCommand (why : Reserved)
  deriving DecidableEq, Repr

/-- A layer with all its registers zero (R34). -/
def resetLayer : LayerRegs := ⟨0#32, 0#32, 0#32, 0#32, 0#32⟩

/-- A frame buffer with every entry FB_CLEAR (R34). -/
def clearedFrameBuffer : FrameBuffer :=
  ⟨Vector.replicate 192 (Vector.replicate 256 fbClear), Vector.replicate 192 (Vector.replicate 256 fbClear)⟩

/-- The state after power-on (R34, D31). A and B are unspecified there (R29): opaque constants, log entry 1. The inputs
hold the model's own choices (log entries 2 to 5): default thresholds, VRAM with nothing listed, sink answering
success, no command pending. -/
def State.reset : State where
  cycleCounter := 0#20
  mode := .draw
  scanlineIndex := 0#9
  cfg := ⟨0#32, Vector.replicate 4 resetLayer⟩
  diag := 0#2
  raw := Vector.replicate 256 0x0000#16
  derived := Vector.replicate 256 0xFF000000#32
  dirty := Vector.replicate 256 false
  lineA := tabulate 256 Config.powerOnA
  lineB := tabulate 256 Config.powerOnB
  fb := clearedFrameBuffer
  thresholds := Thresholds.default
  vram := []
  sinkOk := true
  stream := []
  out := Out.none

end Sys2Proof.Machine
end

