-- ==== Sys2Proof/Machine/Vram.lean ====
section
/-!
DEFINITION. The tile/map memory: its canonical form, the memory collaborator's write of one byte, and `VramRead`
(`20_memory.md` R41, R45).
-/

namespace Sys2Proof.Machine

/-- What an address the list does not hold reads as (DESIGN CHOICE, log entry 3). -/
def unlistedByte : Byte := 0x00#8

/-- The canonical form: addresses strictly rising and inside the 2^32 bytes of R40, no entry equal to `unlistedByte`. -/
abbrev Memory.wf (m : Memory) : Prop :=
  m.Pairwise (fun c d => c.1 < d.1) ∧ ∀ c ∈ m, c.1 < 2 ^ 32 ∧ c.2 ≠ unlistedByte

/-- The byte at an address. -/
def memByte (m : Memory) (a : Addr) : Byte :=
  match m with
  | [] => unlistedByte
  | c :: rest => if c.1 = a.toNat then c.2 else memByte rest a

/-- Write one byte, keeping the canonical form: a byte equal to `unlistedByte` leaves no entry. -/
def memWrite (m : Memory) (a : Addr) (v : Byte) : Memory :=
  match m with
  | [] => if v = unlistedByte then [] else [(a.toNat, v)]
  | c :: rest =>
    if a.toNat < c.1 then (if v = unlistedByte then c :: rest else (a.toNat, v) :: c :: rest)
    else if a.toNat = c.1 then (if v = unlistedByte then rest else (a.toNat, v) :: rest)
    else c :: memWrite rest a v

/-- The memory collaborator's changes between two commands, first to last (`10_state.md` R32 (b)). -/
def memWrites (m : Memory) (ws : List (Addr × Byte)) : Memory :=
  ws.foldl (fun m w => memWrite m w.1 w.2) m

/-- `VramRead(addr, 1)` (R45). -/
def vramRead1 (m : Memory) (a : Addr) : Byte := memByte m a

/-- `VramRead(addr, 2)`: little-endian, the second address wraps modulo 2^32 (R41, R45). -/
def vramRead2 (m : Memory) (a : Addr) : BitVec 16 := memByte m (a + 1#32) ++ memByte m a

end Sys2Proof.Machine
end

