-- ==== Sys2Proof/Machine/Flags.lean ====
section
/-!
DEFINITION. The flags and register fields (`10_state.md` R17, R19, R20, R23, R24, R27): what each bit of a register
means, and the one way a sticky diagnostic bit or a dirty flag is set. The block has no condition codes (R17).
-/

namespace Sys2Proof.Machine

/-! ### Fields of DISPCTL (R19) -/

/-- DISPCTL.displayMode, bits 2:0. -/
def displayMode (cfg : CfgRegs) : BitVec 3 := cfg.dispctl.extractLsb' 0 3

/-- DISPCTL.forcedBlank, bit 3. -/
def forcedBlank (cfg : CfgRegs) : Bool := cfg.dispctl.getLsbD 3

/-! ### Fields of a layer's registers (R20 to R23) -/

/-- BGCTL.enabled, bit 0. -/
def layerEnabled (r : LayerRegs) : Bool := r.bgctl.getLsbD 0

/-- BGCTL.priority, bits 2:1. -/
def layerPriority (r : LayerRegs) : BitVec 2 := r.bgctl.extractLsb' 1 2

/-- BGCTL.depth8, bit 3: 0 = 4 bits per pixel, 1 = 8 bits per pixel. -/
def layerDepth8 (r : LayerRegs) : Bool := r.bgctl.getLsbD 3

/-- BGCTL.sizeClass, bits 5:4. -/
def layerSizeClass (r : LayerRegs) : BitVec 2 := r.bgctl.extractLsb' 4 2

/-- BGCTL.modeTag, bits 8:6: stored, read by no tile sampler; ExtSample gets it with the whole `cfg` (R148). -/
def layerModeTag (r : LayerRegs) : BitVec 3 := r.bgctl.extractLsb' 6 3

/-- BGSCROLLX.scrollX, bits 15:0. -/
def layerScrollX (r : LayerRegs) : BitVec 16 := r.scrollX.extractLsb' 0 16

/-- BGSCROLLY.scrollY, bits 15:0. -/
def layerScrollY (r : LayerRegs) : BitVec 16 := r.scrollY.extractLsb' 0 16

/-! ### Display modes (`30_encoding.md` R80, `42_compositor.md` R136) -/

/-- The composition algorithms a display mode can select. -/
inductive DisplayAlgorithm where
  /-- Display mode 0. -/
  | tile0
  /-- Display mode 1. -/
  | tile1
  /-- Display modes 2..5. -/
  | extended (m : ExtMode)
  deriving DecidableEq, Repr

/-- The algorithm of a display mode tag; 6 and 7 have none (R80). -/
def displayAlgorithm (m : BitVec 3) : Option DisplayAlgorithm :=
  match m.toNat with
  | 0 => some .tile0
  | 1 => some .tile1
  | 2 => some (.extended .mode2)
  | 3 => some (.extended .mode3)
  | 4 => some (.extended .mode4)
  | 5 => some (.extended .mode5)
  | _ => none

/-! ### The diagnostics (R24, R82, `60_exceptions.md` R201) -/

/-- The diagnostic codes (R82). -/
inductive DiagCode where
  | unsupportedMode
  | presentFail
  deriving DecidableEq, Repr

/-- The bit of a code in DIAG and in the diagnostic pulse (R82). -/
def DiagCode.bit (k : DiagCode) : BitVec 2 :=
  match k with
  | .unsupportedMode => 0b01#2
  | .presentFail => 0b10#2

/-- A DIAG or pulse value with the bit of `k` set. -/
def raiseBit (d : BitVec 2) (k : DiagCode) : BitVec 2 := d ||| k.bit

/-- DIAG.unsupportedMode (R24). -/
def unsupportedModeFlag (s : State) : Bool := s.diag.getLsbD 0

/-- DIAG.presentFail (R24). -/
def presentFailFlag (s : State) : Bool := s.diag.getLsbD 1

/-! ### The dirty flags (R27) -/

/-- The dirty flags with flag `i` set, no other changed (`41_palette.md` R121). -/
def setDirty (d : Vector Bool 256) (i : BitVec 8) : Vector Bool 256 :=
  d.set i.toNat true i.isLt

/-- The dirty flags with every flag cleared (`41_palette.md` R122). -/
def clearDirty : Vector Bool 256 := Vector.replicate 256 false

end Sys2Proof.Machine
end

