-- ==== Sys2Proof/Machine/Operands.lean ====
section
/-!
DEFINITION. What an operation's operands and addresses come to: the colour conversion (`41_palette.md` R120), the
write masks of the configuration registers (`44_control_ops.md` R191), the frame-buffer indices (`20_memory.md` R44),
and the tile sampler with its effective addresses (`42_compositor.md` R141 to R146).
-/

namespace Sys2Proof.Machine

/-! ### Colours -/

/-- channel1, bits 4:0 of a raw colour (`30_encoding.md` R75). -/
def channel1 (r : RawColour) : BitVec 5 := r.extractLsb' 0 5

/-- channel2, bits 9:5 of a raw colour (R75). -/
def channel2 (r : RawColour) : BitVec 5 := r.extractLsb' 5 5

/-- channel3, bits 14:10 of a raw colour (R75). -/
def channel3 (r : RawColour) : BitVec 5 := r.extractLsb' 10 5

/-- A 5-bit channel expanded to 8 bits by a plain 3-bit left shift (`41_palette.md` R120). -/
def expandChannel (c : BitVec 5) : BitVec 8 := c.setWidth 8 <<< 3

/-- `Expand(r)` (`41_palette.md` R120): the opaque display colour of a raw colour; bit 15 is ignored. -/
def expand (r : RawColour) : Colour :=
  (0xFF#8 ++ expandChannel (channel1 r) ++ expandChannel (channel2 r) ++ expandChannel (channel3 r) :
    BitVec (8 + 8 + 8 + 8))

/-- WHITE_FILL, the "fixed all-white value" (`00_scope.md` R4, `43_framebuffer.md` R171). -/
def whiteFill : Colour := 0xFFFFFFFF#32

/-! ### Configuration writes -/

/-- WMASK(r) (`44_control_ops.md` R191). -/
def writeMask (r : CfgReg) : BitVec 32 :=
  match r with
  | .dispctl => 0x0000000F#32
  | .bgctl _ => 0x000001FF#32
  | .bgtilebase _ => 0xFFFFFFFF#32
  | .bgmapbase _ => 0xFFFFFFFF#32
  | .bgscrollx _ => 0x0000FFFF#32
  | .bgscrolly _ => 0x0000FFFF#32

/-! ### Map geometry (`00_scope.md` R4, `30_encoding.md` R81) -/

/-- MAP_W[s]. -/
def mapWidth (s : BitVec 2) : Nat :=
  match s.toNat with
  | 0 => 256
  | 1 => 512
  | 2 => 256
  | _ => 512

/-- MAP_H[s]. -/
def mapHeight (s : BitVec 2) : Nat :=
  match s.toNat with
  | 0 => 256
  | 1 => 256
  | 2 => 512
  | _ => 512

/-- px: the horizontal map coordinate (R141). -/
def mapX (r : LayerRegs) (x : Fin 256) : Nat :=
  ((layerScrollX r).toNat + x.val) % mapWidth (layerSizeClass r)

/-- py: the vertical map coordinate (R141). -/
def mapY (r : LayerRegs) (y : Line) : Nat :=
  ((layerScrollY r).toNat + y.toNat) % mapHeight (layerSizeClass r)

/-! ### The map entry (R142, `30_encoding.md` R77) -/

/-- The effective address of the map entry of map pixel (px, py), modulo 2^32 (R142). -/
def mapEntryAddr (r : LayerRegs) (px py : Nat) : Addr :=
  let tx := px / 8
  let ty := py / 8
  let blk := tx / 32 + ty / 32 * (mapWidth (layerSizeClass r) / 256)
  BitVec.ofNat 32 (r.mapBase.toNat + blk * 0x800 + (ty % 32 * 32 + tx % 32) * 2)

/-- tileIndex, bits 9:0 of a map entry. -/
def entryTile (e : BitVec 16) : BitVec 10 := e.extractLsb' 0 10

/-- hflip, bit 10 of a map entry. -/
def entryHflip (e : BitVec 16) : Bool := e.getLsbD 10

/-- vflip, bit 11 of a map entry. -/
def entryVflip (e : BitVec 16) : Bool := e.getLsbD 11

/-- palBank, bits 15:12 of a map entry. -/
def entryBank (e : BitVec 16) : BitVec 4 := e.extractLsb' 12 4

/-- An in-tile coordinate, mirrored when the flip bit is set (R143). -/
def inTile (flip : Bool) (p : Nat) : Nat := if flip then 7 - p % 8 else p % 8

/-! ### Tile data (R144, R145) -/

/-- The effective address of a 4-bit pixel's byte, modulo 2^32 (R144, `30_encoding.md` R78). -/
def tileAddr4 (r : LayerRegs) (tile : BitVec 10) (fx fy : Nat) : Addr :=
  BitVec.ofNat 32 (r.tileBase.toNat + tile.toNat * 32 + fy * 4 + fx / 2)

/-- The effective address of an 8-bit pixel's byte, modulo 2^32 (R145, `30_encoding.md` R79). -/
def tileAddr8 (r : LayerRegs) (tile : BitVec 10) (fx fy : Nat) : Addr :=
  BitVec.ofNat 32 (r.tileBase.toNat + tile.toNat * 64 + fy * 8 + fx)

/-- The pixel's nibble: bits 3:0 for an even column, bits 7:4 for an odd one (R78, R144). -/
def pixelNibble (b : Byte) (fx : Nat) : BitVec 4 :=
  if fx % 2 = 0 then b.extractLsb' 0 4 else b.extractLsb' 4 4

/-- The sample of a 4-bit pixel: 0 is transparent (R144, R146). -/
def sample4 (bank v : BitVec 4) : Sample :=
  if v = 0#4 then .transparent else .indexed (BitVec.ofNat 8 (bank.toNat * 16 + v.toNat))

/-- The sample of an 8-bit pixel: 0 is transparent (R145, R146). -/
def sample8 (v : Byte) : Sample := if v = 0#8 then .transparent else .indexed v

/-- `TileSample(l, x, y)` for the layer with registers `r` (R141 to R146). -/
def tileSample (r : LayerRegs) (vram : Memory) (x : Fin 256) (y : Line) : Sample :=
  let px := mapX r x
  let py := mapY r y
  let e := vramRead2 vram (mapEntryAddr r px py)
  let fx := inTile (entryHflip e) px
  let fy := inTile (entryVflip e) py
  if layerDepth8 r then sample8 (vramRead1 vram (tileAddr8 r (entryTile e) fx fy))
  else sample4 (entryBank e) (pixelNibble (vramRead1 vram (tileAddr4 r (entryTile e) fx fy)) fx)

/-- `Sample(m, l, x, y)`: the sampling function of an algorithm (`42_compositor.md` R136, R147, R148). -/
def sampleOf (alg : DisplayAlgorithm) (cfg : CfgRegs) (vram : Memory) (l : Fin 4) (x : Fin 256) (y : Line) : Sample :=
  match alg with
  | .tile0 => tileSample cfg.layers[l] vram x y
  | .tile1 => tileSample cfg.layers[l] vram x y
  | .extended m => Config.extSample m cfg (memByte vram) l x y

/-! ### Frame-buffer indices (`20_memory.md` R44) -/

/-- The index of pixel (x, y) of screen A. -/
def fbIndexA (y : Nat) (x : Fin 256) : Nat := y * 256 + x.val

/-- The index of pixel (x, y) of screen B. -/
def fbIndexB (y : Nat) (x : Fin 256) : Nat := 49152 + y * 256 + x.val

end Sys2Proof.Machine
end

