-- ==== Sys2Proof/Machine/Ops.lean ====
section
/-!
DEFINITION. The named operations over the block's state that the meanings share: the output record, the diagnostics,
the register, palette, line-buffer and frame-buffer operations, the composition of a line, and the service of an
event. The service is what this block has in the place of taking an exception (`60_exceptions.md` R205, R206): it
saves nothing, jumps nowhere, returns by ending, and runs inside the ADVANCE that emitted the event.
-/

namespace Sys2Proof.Machine

/-! ### The output record (`10_state.md` R33) -/

/-- A command begins with an empty output record. -/
def beginCommand (s : State) : State := { s with out := Out.none }

/-- `emit E(y)` (`00_scope.md` R8). -/
def emit (e : PhaseEvent) (s : State) : State := { s with out := { s.out with event := some e } }

/-- `diag(k)`: the sticky bit and the pulse bit, nothing else (`60_exceptions.md` R201). -/
def diag (k : DiagCode) (s : State) : State :=
  { s with diag := raiseBit s.diag k, out := { s.out with diagPulse := raiseBit s.out.diagPulse k } }

/-! ### The configuration registers (`10_state.md` R18) -/

/-- The value of a configuration register. -/
def cfgRead (cfg : CfgRegs) (r : CfgReg) : BitVec 32 :=
  match r with
  | .dispctl => cfg.dispctl
  | .bgctl l => cfg.layers[l].bgctl
  | .bgtilebase l => cfg.layers[l].tileBase
  | .bgmapbase l => cfg.layers[l].mapBase
  | .bgscrollx l => cfg.layers[l].scrollX
  | .bgscrolly l => cfg.layers[l].scrollY

/-- The register file with the registers of layer `l` replaced. -/
def setLayer (cfg : CfgRegs) (l : Fin 4) (r : LayerRegs) : CfgRegs :=
  { cfg with layers := cfg.layers.set l.val r l.isLt }

/-- `cfg[r] <- v & WMASK(r)` (`44_control_ops.md` R191). -/
def cfgWrite (cfg : CfgRegs) (r : CfgReg) (v : BitVec 32) : CfgRegs :=
  let w := v &&& writeMask r
  match r with
  | .dispctl => { cfg with dispctl := w }
  | .bgctl l => setLayer cfg l { cfg.layers[l] with bgctl := w }
  | .bgtilebase l => setLayer cfg l { cfg.layers[l] with tileBase := w }
  | .bgmapbase l => setLayer cfg l { cfg.layers[l] with mapBase := w }
  | .bgscrollx l => setLayer cfg l { cfg.layers[l] with scrollX := w }
  | .bgscrolly l => setLayer cfg l { cfg.layers[l] with scrollY := w }

/-! ### The palette cache (`41_palette.md`) -/

/-- `raw[i] <- v; dirty[i] <- 1` (R121). -/
def paletteWrite (i : BitVec 8) (v : RawColour) (s : State) : State :=
  { s with raw := s.raw.set i.toNat v i.isLt, dirty := setDirty s.dirty i }

/-- The derived entries after REFRESH: a dirty entry is expanded, another kept (R122). -/
def refreshedDerived (raw : Vector RawColour 256) (derived : Vector Colour 256) (dirty : Vector Bool 256) :
    Vector Colour 256 :=
  tabulate 256 fun i => if dirty[i] then expand raw[i] else derived[i]

/-- REFRESH (R122). -/
def refresh (s : State) : State :=
  { s with derived := refreshedDerived s.raw s.derived s.dirty, dirty := clearDirty }

/-! ### Composition (`42_compositor.md`) -/

/-- The layers whose priority value is `p`, in ascending layer number. -/
def layersOfPriority (cfg : CfgRegs) (p : BitVec 2) : List (Fin 4) :=
  [0, 1, 2, 3].filter fun l => layerPriority cfg.layers[l] == p

/-- `LayerOrder(cfg)`: ascending by (priority, layer number) (R138). -/
def layerOrder (cfg : CfgRegs) : List (Fin 4) :=
  layersOfPriority cfg 0#2 ++ layersOfPriority cfg 1#2 ++ layersOfPriority cfg 2#2 ++ layersOfPriority cfg 3#2

/-- `Resolve(s)`; none for a transparent sample (R140). -/
def resolve (derived : Vector Colour 256) (s : Sample) : Option Colour :=
  match s with
  | .transparent => none
  | .indexed i => some (derived[i.toNat]'i.isLt)
  | .direct r => some (expand r)

/-- The colour a layer contributes to a pixel with the samples `sample`: none if it is disabled or its sample is
transparent (R137). -/
def layerColour (cfg : CfgRegs) (derived : Vector Colour 256) (sample : Fin 4 → Sample) (l : Fin 4) : Option Colour :=
  if layerEnabled cfg.layers[l] then resolve derived (sample l) else none

/-- A pixel with the samples `sample`: the first layer in order that contributes, else the backdrop `derived[0]`
(R137, R139). -/
def composePixel (cfg : CfgRegs) (derived : Vector Colour 256) (sample : Fin 4 → Sample) : Colour :=
  ((layerOrder cfg).findSome? (layerColour cfg derived sample)).getD derived[0]

/-- `ComposeA(m, x, y)` (R137). -/
def composeA (alg : DisplayAlgorithm) (cfg : CfgRegs) (vram : Memory) (derived : Vector Colour 256)
    (y : Line) (x : Fin 256) : Colour :=
  composePixel cfg derived fun l => sampleOf alg cfg vram l x y

/-- RENDER y (R135): both rows, or `diag(0)` and neither row when the display mode has no algorithm (R150). -/
def render (y : Line) (s : State) : State :=
  match displayAlgorithm (displayMode s.cfg) with
  | none => diag .unsupportedMode s
  | some alg =>
    { s with
      lineA := tabulate 256 (composeA alg s.cfg s.vram s.derived y)
      lineB := Config.rowB s.cfg (memByte s.vram) s.derived y }

/-! ### The frame buffer (`43_framebuffer.md`, `20_memory.md` R44) -/

/-- FB[k] in the one ordered sequence of R30 and R44. -/
def FrameBuffer.entry (fb : FrameBuffer) (k : Fin 98304) : Colour :=
  if h : k.val < 49152 then (fb.screenA[k.val / 256]'(by omega))[k.val % 256]'(by omega)
  else (fb.screenB[(k.val - 49152) / 256]'(by omega))[(k.val - 49152) % 256]'(by omega)

/-- Line `y` of both screens replaced. A line number past 191 has no row and changes nothing; no command with such a
line is executed, and the service meets one only in states no run reaches (`40_timing.md` R108, log entry 10). -/
def fbWriteLine (fb : FrameBuffer) (y : Line) (a b : Row) : FrameBuffer :=
  { screenA := fb.screenA.setIfInBounds y.toNat a, screenB := fb.screenB.setIfInBounds y.toNat b }

/-- LINECOPY y (R170). -/
def lineCopy (y : Line) (s : State) : State := { s with fb := fbWriteLine s.fb y s.lineA s.lineB }

/-- A row of WHITE_FILL. -/
def whiteRow : Row := Vector.replicate 256 whiteFill

/-- LINEFILL y (R171). -/
def lineFill (y : Line) (s : State) : State := { s with fb := fbWriteLine s.fb y whiteRow whiteRow }

/-- `Out.frame <- view of FB` (R173). -/
def handOver (s : State) : State := { s with out := { s.out with frame := some s.fb } }

/-- PRESENT (R173): the frame output, and `diag(1)` when the sink answers failure. -/
def present (s : State) : State :=
  if s.sinkOk then handOver s else diag .presentFail (handOver s)

/-! ### The service of an event (`40_timing.md` R106, `60_exceptions.md` R205) -/

/-- Service(EnterHBlank, y): REFRESH, RENDER y, then LINEFILL y under forced blank, else LINECOPY y. -/
def serviceHBlank (y : Line) (s : State) : State :=
  let s := render y (refresh s)
  if forcedBlank s.cfg then lineFill y s else lineCopy y s

/-- Service(E, y) (R106). -/
def service (e : PhaseEvent) (s : State) : State :=
  match e with
  | .enterDraw _ => s
  | .enterHBlank y => serviceHBlank y s
  | .enterVBlank _ => present s

/-! ### RESET (`44_control_ops.md` R190) -/

/-- RESET: everything but A, B and the inputs. -/
def resetBlock (s : State) : State :=
  { s with
    cycleCounter := 0#20
    mode := .draw
    scanlineIndex := 0#9
    cfg := ⟨0#32, Vector.replicate 4 resetLayer⟩
    diag := 0b00#2
    raw := Vector.replicate 256 0x0000#16
    derived := Vector.replicate 256 0xFF000000#32
    dirty := clearDirty
    fb := clearedFrameBuffer }

/-! ### The command stream (`10_state.md` R32) -/

/-- Take the next item of the stream: the collaborator's VRAM changes and the sink's answer reach the block, the item
leaves the stream. -/
def acceptItem (c : StreamItem) (rest : List StreamItem) (s : State) : State :=
  { s with vram := memWrites s.vram c.vramWrites, sinkOk := c.sinkOk, stream := rest }

/-- No command is pending: all state is kept and no output is valid (`60_exceptions.md` R213, `10_state.md` R33;
DESIGN CHOICE, log entry 9). -/
def idle (s : State) : State := { s with out := Out.none }

end Sys2Proof.Machine
end

