-- ==== Sys2Proof/Machine/Compositor.lean ====
section
/-!
DEFINITION. The Background Compositor operation RENDER (`42_compositor.md`).
-/

namespace Sys2Proof.Machine

/-- RENDER y (R135); y > 262 is reserved (`30_encoding.md` R72, R83). -/
def execRender (y : Line) (s : State) : Host.Outcome State Fault Refusal :=
  if renderLineOk y then .next (render y (beginCommand s)) else .refused (.reservedCommand .lineOutOfRange)

end Sys2Proof.Machine
end

