-- ==== Sys2Proof/Machine/Control.lean ====
section
/-!
DEFINITION. The control operations RESET and CFGWR (`44_control_ops.md`).
-/

namespace Sys2Proof.Machine

/-- RESET (R190). -/
def execReset (s : State) : Host.Outcome State Fault Refusal := .next (resetBlock (beginCommand s))

/-- CFGWR r, v (R191). -/
def execCfgwr (r : CfgReg) (v : BitVec 32) (s : State) : Host.Outcome State Fault Refusal :=
  .next { beginCommand s with cfg := cfgWrite s.cfg r v }

end Sys2Proof.Machine
end

