-- ==== Sys2Proof/Machine/Frame.lean ====
section
/-!
DEFINITION. The Frame Buffer operations LINECOPY, LINEFILL and PRESENT (`43_framebuffer.md`).
-/

namespace Sys2Proof.Machine

/-- LINECOPY y (R170); y > 191 is reserved (`30_encoding.md` R72, R83). -/
def execLinecopy (y : Line) (s : State) : Host.Outcome State Fault Refusal :=
  if copyLineOk y then .next (lineCopy y (beginCommand s)) else .refused (.reservedCommand .lineOutOfRange)

/-- LINEFILL y (R171); y > 191 is reserved (`30_encoding.md` R72, R83). -/
def execLinefill (y : Line) (s : State) : Host.Outcome State Fault Refusal :=
  if copyLineOk y then .next (lineFill y (beginCommand s)) else .refused (.reservedCommand .lineOutOfRange)

/-- PRESENT (R173). -/
def execPresent (s : State) : Host.Outcome State Fault Refusal := .next (present (beginCommand s))

end Sys2Proof.Machine
end

