-- ==== Sys2Proof/Machine/Palette.lean ====
section
/-!
DEFINITION. The Palette Cache operations PALWR and REFRESH (`41_palette.md`).
-/

namespace Sys2Proof.Machine

/-- PALWR i, v (R121). -/
def execPalwr (i : BitVec 8) (v : RawColour) (s : State) : Host.Outcome State Fault Refusal :=
  .next (paletteWrite i v (beginCommand s))

/-- REFRESH (R122). -/
def execRefresh (s : State) : Host.Outcome State Fault Refusal := .next (refresh (beginCommand s))

end Sys2Proof.Machine
end

