-- ==== Sys2Proof/Machine/Timing.lean ====
section
/-!
DEFINITION. The Timing Driver (`40_timing.md`): the mode classifier, the event generator and ADVANCE.
-/

namespace Sys2Proof.Machine

/-- `Classify(c)` (R100). -/
def classify (p : Thresholds) (c : Nat) : Mode :=
  if c < p.cycActive then (if c % p.cycLine < p.cycDraw then .draw else .hblank) else .vblank

/-- The counter after one cycle: `c + 1`, replaced by 0 at CYC_FRAME (R101). -/
def nextCounter (p : Thresholds) (c : BitVec 20) : BitVec 20 :=
  let c1 := c + 1#20
  if c1.toNat = p.cycFrame then 0#20 else c1

/-- The scanline index after a cycle whose new counter value is `c1` (R102). -/
def nextScanline (p : Thresholds) (c1 : BitVec 20) (y : Line) : Line :=
  if c1.toNat % p.cycLine = 0 then BitVec.ofNat 9 ((y.toNat + 1) % 263) else y

/-- The event of entering a mode, carrying a line number (R103, R104). -/
def enterEvent (m : Mode) (y : Line) : PhaseEvent :=
  match m with
  | .draw => .enterDraw y
  | .hblank => .enterHBlank y
  | .vblank => .enterVBlank y

/-- The counter and the scanline index stepped by one cycle (R101, R102). -/
def tick (s : State) : State :=
  let c1 := nextCounter s.thresholds s.cycleCounter
  { s with cycleCounter := c1, scanlineIndex := nextScanline s.thresholds c1 s.scanlineIndex }

/-- Entry to the mode `m`: the mode stored, the event emitted and serviced (R103, R104, R106). -/
def enterMode (m : Mode) (s : State) : State :=
  let e := enterEvent m s.scanlineIndex
  service e (emit e { s with mode := m })

/-- ADVANCE on a state whose output record is empty (R101). -/
def advance (s : State) : State :=
  let s1 := tick s
  let m1 := classify s1.thresholds s1.cycleCounter.toNat
  if m1 = s1.mode then s1 else enterMode m1 s1

/-- ADVANCE (R101). -/
def execAdvance (s : State) : Host.Outcome State Fault Refusal := .next (advance (beginCommand s))

end Sys2Proof.Machine
end

