-- ==== Sys2Proof/Machine/Dispatch.lean ====
section
/-!
DEFINITION. One arm per operation.
-/

namespace Sys2Proof.Machine

def exec (i : Instr) (s : State) : Host.Outcome State Fault Refusal :=
  match i with
  | .advance => Sys2Proof.Machine.execAdvance s
  | .reset => Sys2Proof.Machine.execReset s
  | .palwr k v => Sys2Proof.Machine.execPalwr k v s
  | .cfgwr r v => Sys2Proof.Machine.execCfgwr r v s
  | .refresh => Sys2Proof.Machine.execRefresh s
  | .render y => Sys2Proof.Machine.execRender y s
  | .linecopy y => Sys2Proof.Machine.execLinecopy y s
  | .linefill y => Sys2Proof.Machine.execLinefill y s
  | .present => Sys2Proof.Machine.execPresent s

end Sys2Proof.Machine
end

