-- ==== Sys2Proof/Machine/Step.lean ====
section
/-!
DEFINITION. One step: the next command of the stream is accepted, decoded and executed (`00_scope.md` R6); a reserved
word is refused (`44_control_ops.md` R193); with no command pending the block is idle (`60_exceptions.md` R213).
-/

namespace Sys2Proof.Machine

/-- One step of the machine. -/
def step (s : State) : Host.Outcome State Fault Refusal :=
  match s.stream with
  | [] => .next (idle s)
  | c :: rest =>
    match decode c.word with
    | .ok i => exec i (acceptItem c rest s)
    | .error why => .refused (.reservedCommand why)

/-- `s` with the command word `w` (`nbits` bits, every higher bit zero) as the next item of its stream, VRAM and the
sink's answer as they are. -/
def State.withFetchWord (s : State) (nbits w : Nat) : State :=
  { s with stream := ⟨[], s.sinkOk, BitVec.ofNat 64 (w % 2 ^ nbits)⟩ :: s.stream }

end Sys2Proof.Machine
end

