-- ==== Sys2Proof/Machine/Ports.lean ====
section
/-!
DEFINITION. The output ports (`10_state.md` R33) with the codes of `30_encoding.md` R73, R74 and R82, computed from the
state and the output record.
-/

namespace Sys2Proof.Machine

/-- The 2-bit code of a mode (R73). -/
def modeCode (m : Mode) : BitVec 2 :=
  match m with
  | .draw => 0b00#2
  | .hblank => 0b01#2
  | .vblank => 0b10#2

/-- The 2-bit code of an event output (R74). -/
def eventCode (e : Option PhaseEvent) : BitVec 2 :=
  match e with
  | none => 0b00#2
  | some (.enterDraw _) => 0b01#2
  | some (.enterHBlank _) => 0b10#2
  | some (.enterVBlank _) => 0b11#2

/-- The line number an event output carries, 0 when there is no event (R74). -/
def eventLine (e : Option PhaseEvent) : Line :=
  match e with
  | none => 0#9
  | some (.enterDraw y) => y
  | some (.enterHBlank y) => y
  | some (.enterVBlank y) => y

/-- evt_o[1:0]. -/
def evtO (s : State) : BitVec 2 := eventCode s.out.event

/-- evt_line_o[8:0]. -/
def evtLineO (s : State) : Line := eventLine s.out.event

/-- diag_pulse_o[1:0]. -/
def diagPulseO (s : State) : BitVec 2 := s.out.diagPulse

/-- present_valid_o. -/
def presentValidO (s : State) : Bool := s.out.frame.isSome

/-- The sink's read port onto the frame, valid during the PRESENT step only (R33, `43_framebuffer.md` R174). -/
def presentRead (s : State) (k : Fin 98304) : Option Colour := s.out.frame.map fun fb => fb.entry k

/-- mode_o[1:0]. -/
def modeO (s : State) : BitVec 2 := modeCode s.mode

/-- line_o[8:0]. -/
def lineO (s : State) : Line := s.scanlineIndex

/-- cycle_o[19:0]. -/
def cycleO (s : State) : BitVec 20 := s.cycleCounter

/-- diag_o[1:0]. -/
def diagO (s : State) : BitVec 2 := s.diag

end Sys2Proof.Machine
end

