-- ==== Sys2Proof/Safety.lean ====
section
/-!
DEFINITION. The terms claims about the block are stated in: the invariants of its reachable states, what a reserved word is,
and runs of several commands.
-/

namespace Sys2Proof.Machine

/-! ### Invariants -/

/-- The invariants of TimingState (`10_state.md` R14). -/
structure TimingOk (s : State) : Prop where
  /-- (a) -/
  counter_lt : s.cycleCounter.toNat < s.thresholds.cycFrame
  /-- (b) -/
  line_eq : s.scanlineIndex.toNat = s.cycleCounter.toNat / s.thresholds.cycLine
  /-- (c) -/
  mode_eq : s.mode = classify s.thresholds s.cycleCounter.toNat

/-- The palette invariant (`10_state.md` R28): a clean derived entry is the expansion of its raw entry. -/
def PaletteOk (s : State) : Prop :=
  ∀ i : Fin 256, s.dirty[i] = false → s.derived[i] = expand s.raw[i]

/-- The reserved bits of every configuration register read as 0 (`10_state.md` R18 to R23). -/
def ConfigOk (s : State) : Prop :=
  ∀ r : CfgReg, cfgRead s.cfg r &&& writeMask r = cfgRead s.cfg r

/-- What holds in every state that a run from reset reaches. -/
structure Inv (s : State) : Prop where
  timing : TimingOk s
  palette : PaletteOk s
  config : ConfigOk s
  /-- The canonical form of the tile/map memory's representation. -/
  vram : Memory.wf s.vram

/-! ### Reserved words (`30_encoding.md` R83) -/

/-- A register index that R18 defines. -/
def DefinedIndex (a : Nat) : Prop := a = 0 ∨ ∃ l k, l < 4 ∧ k < 5 ∧ a = 0x010 + 0x10 * l + k

/-- R83, on the word as a number: op, a, z and d are its fields of R70. -/
def ReservedWord (w : CommandWord) : Prop :=
  let op := w.toNat / 2 ^ 60
  let a := w.toNat / 2 ^ 48 % 2 ^ 12
  let z := w.toNat / 2 ^ 32 % 2 ^ 16
  let d := w.toNat % 2 ^ 32
  (op = 0 ∨ 0xA ≤ op) ∨ z ≠ 0 ∨
    ((op = 1 ∨ op = 2 ∨ op = 5 ∨ op = 9) ∧ (a ≠ 0 ∨ d ≠ 0)) ∨
    (op = 3 ∧ (256 ≤ a ∨ 65536 ≤ d)) ∨
    ((op = 6 ∨ op = 7 ∨ op = 8) ∧ (512 ≤ a ∨ d ≠ 0)) ∨
    (op = 4 ∧ ¬ DefinedIndex a) ∨ (op = 6 ∧ 262 < a % 512) ∨ ((op = 7 ∨ op = 8) ∧ 191 < a % 512)

/-! ### Runs -/

/-- Several commands, one after another, stopping at the first that does not complete. -/
def execAll (is : List Instr) (s : State) : Host.Outcome State Fault Refusal :=
  match is with
  | [] => .next s
  | i :: rest =>
    match exec i s with
    | .next t => execAll rest t
    | .fault r => .fault r
    | .refused r => .refused r

/-- The events several commands emit, in order. -/
def eventsOf (is : List Instr) (s : State) : List PhaseEvent :=
  match is with
  | [] => []
  | i :: rest =>
    match exec i s with
    | .next t => t.out.event.toList ++ eventsOf rest t
    | .fault _ => []
    | .refused _ => []

/-- The scanline index after each of several commands, in order. -/
def linesOf (is : List Instr) (s : State) : List Line :=
  match is with
  | [] => []
  | i :: rest =>
    match exec i s with
    | .next t => t.scanlineIndex :: linesOf rest t
    | .fault _ => []
    | .refused _ => []

/-- `ADVANCE n` (`30_encoding.md` R87). -/
def advances (n : Nat) : List Instr := List.replicate n .advance

/-- Does the stream item carry an ADVANCE? -/
def StreamItem.isAdvance (c : StreamItem) : Bool :=
  match decode c.word with
  | .ok i => decide (i = .advance)
  | .error _ => false

end Sys2Proof.Machine
end

