-- ==== Sys2Proof/Certificates/Slice0/Obligations.lean ====
section
/-!
DEFINITION. The statements for the provers: what the rules of the spec say of the block, as propositions about `exec`, `step`
and the functions they call. In a result statement `t = { s with f := t.f, … }` says that every field not listed is
unchanged: that is its frame. The clauses about an output record being empty rest on log entry 11.
-/

open Sys2Proof
open Sys2Proof.Machine

/-! ### Encoding -/

/-- Every well-formed operation is read back from its own word (`30_encoding.md` R70 to R72). -/
def Obligations.DecodeOfEncode : Prop :=
  ∀ i : Instr, i.wellFormed = true → decode (encode i) = .ok i

/-- Every accepted word has one meaning and is that operation's own word (R70 to R72). -/
def Obligations.EncodeOfDecode : Prop :=
  ∀ (w : CommandWord) (i : Instr), decode w = .ok i → encode i = w ∧ i.wellFormed = true

/-- "a word w spells the operation iff `w & mask = match` and the value constraints of rule R72 hold" (R88, R72, R18). -/
def Obligations.DecodeFollowsMatchMask : Prop :=
  ∀ (w : CommandWord) (m : String),
    (∃ i, decode w = .ok i ∧ i.mnemonic = m) ↔
      ∃ row ∈ opcodeTable, row.mnemonic = m ∧ w &&& row.mask = row.pattern ∧
        (m = "CFGWR" → DefinedIndex (w.extractLsb' 48 12).toNat) ∧
        (m = "RENDER" → (w.extractLsb' 48 9).toNat ≤ 262) ∧
        (m = "LINECOPY" ∨ m = "LINEFILL" → (w.extractLsb' 48 9).toNat ≤ 191)

/-- Words written out from R88 decode to the commands they stand for, one of each family. -/
def Obligations.SampleWordsDecode : Prop :=
  decode 0x1000000000000000#64 = .ok .advance ∧
  decode 0x2000000000000000#64 = .ok .reset ∧
  decode 0x3001000000007FFF#64 = .ok (.palwr 1#8 0x7FFF#16) ∧
  decode 0x4010000000000001#64 = .ok (.cfgwr (.bgctl 0) 0x1#32) ∧
  decode 0x6064000000000000#64 = .ok (.render 100#9) ∧
  decode 0x7002000000000000#64 = .ok (.linecopy 2#9) ∧
  decode 0x9000000000000000#64 = .ok .present

/-- The word of every instruction as a number: op x 2^60 + a x 2^48 + d, `z` zero, with the operands of R72 in `a` and
`d` and the register indices of `10_state.md` R18 (R70 to R72). -/
def Obligations.EncodedWordPlacesOperands : Prop :=
  ∀ i : Instr, (encode i).toNat =
    match i with
    | .advance => 0x1 * 2 ^ 60
    | .reset => 0x2 * 2 ^ 60
    | .palwr k v => 0x3 * 2 ^ 60 + k.toNat * 2 ^ 48 + v.toNat
    | .cfgwr .dispctl v => 0x4 * 2 ^ 60 + v.toNat
    | .cfgwr (.bgctl l) v => 0x4 * 2 ^ 60 + (0x010 + 0x10 * l.val) * 2 ^ 48 + v.toNat
    | .cfgwr (.bgtilebase l) v => 0x4 * 2 ^ 60 + (0x011 + 0x10 * l.val) * 2 ^ 48 + v.toNat
    | .cfgwr (.bgmapbase l) v => 0x4 * 2 ^ 60 + (0x012 + 0x10 * l.val) * 2 ^ 48 + v.toNat
    | .cfgwr (.bgscrollx l) v => 0x4 * 2 ^ 60 + (0x013 + 0x10 * l.val) * 2 ^ 48 + v.toNat
    | .cfgwr (.bgscrolly l) v => 0x4 * 2 ^ 60 + (0x014 + 0x10 * l.val) * 2 ^ 48 + v.toNat
    | .refresh => 0x5 * 2 ^ 60
    | .render y => 0x6 * 2 ^ 60 + y.toNat * 2 ^ 48
    | .linecopy y => 0x7 * 2 ^ 60 + y.toNat * 2 ^ 48
    | .linefill y => 0x8 * 2 ^ 60 + y.toNat * 2 ^ 48
    | .present => 0x9 * 2 ^ 60

/-! ### The step -/

/-- The next command of the stream is executed after the collaborator's VRAM changes and the sink's answer have reached
the block (`00_scope.md` R6, `10_state.md` R32; the form of the stream is the model's, log entry 5). -/
def Obligations.StepRunsDecodedCommand : Prop :=
  ∀ (s : State) (c : StreamItem) (rest : List StreamItem) (i : Instr),
    s.stream = c :: rest → decode c.word = .ok i →
      step s = exec i { s with stream := rest, sinkOk := c.sinkOk, vram := memWrites s.vram c.vramWrites }

/-- A word is refused exactly when R83 calls it reserved; every other command completes (R83, `44_control_ops.md` R193,
`00_scope.md` R6). -/
def Obligations.ReservedWordsExactlyRefused : Prop :=
  ∀ (s : State) (c : StreamItem) (rest : List StreamItem), s.stream = c :: rest →
    (ReservedWord c.word → ∃ why, step s = .refused (.reservedCommand why)) ∧
    (¬ ReservedWord c.word → ∃ t, step s = .next t ∧ t.stream = rest)

/-- With no command pending every piece of state is kept and no output is valid (`60_exceptions.md` R213; that idleness is
a step is the model's choice, log entry 9). -/
def Obligations.IdleStepKeepsState : Prop :=
  ∀ s : State, s.stream = [] → step s = .next { s with out := ⟨none, 0#2, none⟩ }

/-- Every well-formed command completes in every state (`00_scope.md` R6: the block "never refuses to take a well-formed
command"). -/
def Obligations.WellFormedCommandsComplete : Prop :=
  ∀ (i : Instr) (s : State), i.wellFormed = true → ∃ t, exec i s = .next t

/-- RENDER past line 262 and LINECOPY and LINEFILL past line 191 are refused (`30_encoding.md` R72, R83). -/
def Obligations.OutOfRangeLinesRefused : Prop :=
  ∀ (y : Line) (s : State),
    (262 < y.toNat → exec (.render y) s = .refused (.reservedCommand .lineOutOfRange)) ∧
    (191 < y.toNat → exec (.linecopy y) s = .refused (.reservedCommand .lineOutOfRange)) ∧
    (191 < y.toNat → exec (.linefill y) s = .refused (.reservedCommand .lineOutOfRange))

/-! ### Reset and invariants -/

/-- The table of reset values (`10_state.md` R34). -/
def Obligations.ResetStateHoldsTableValues : Prop :=
  State.reset.cycleCounter = 0#20 ∧ State.reset.mode = .draw ∧ State.reset.scanlineIndex = 0#9 ∧
  (∀ r : CfgReg, cfgRead State.reset.cfg r = 0#32) ∧ State.reset.diag = 0b00#2 ∧
  (∀ i : Fin 256, State.reset.raw[i] = 0x0000#16 ∧ State.reset.derived[i] = 0xFF000000#32 ∧
    State.reset.dirty[i] = false) ∧
  ∀ k : Fin 98304, State.reset.fb.entry k = 0x00000000#32

/-- RESET writes exactly what R190 lists: the line buffers, VRAM and the other inputs keep their values. -/
def Obligations.ResetWritesPowerOnValues : Prop :=
  ∀ s : State, ∃ t, exec .reset s = .next t ∧
    t.cycleCounter = 0#20 ∧ t.mode = .draw ∧ t.scanlineIndex = 0#9 ∧
    (∀ r : CfgReg, cfgRead t.cfg r = 0#32) ∧ t.diag = 0b00#2 ∧
    (∀ i : Fin 256, t.raw[i] = 0x0000#16 ∧ t.derived[i] = 0xFF000000#32 ∧ t.dirty[i] = false) ∧
    (∀ k : Fin 98304, t.fb.entry k = 0x00000000#32) ∧
    t.lineA = s.lineA ∧ t.lineB = s.lineB ∧ (∀ a, memByte t.vram a = memByte s.vram a) ∧
    t.thresholds = s.thresholds ∧ t.sinkOk = s.sinkOk ∧ t.stream = s.stream ∧
    t.out.event = none ∧ t.out.diagPulse = 0#2 ∧ t.out.frame = none

/-- The invariants hold at reset (`10_state.md` R14, R28, R18; VRAM's canonical form is the model's, log entry 3). -/
def Obligations.ResetMeetsInvariants : Prop := Inv State.reset

/-- Every step keeps the invariants (`10_state.md` R14, R28, R18; VRAM's canonical form is the model's, log entry 3). -/
def Obligations.StepKeepsInvariants : Prop :=
  ∀ s t : State, Inv s → step s = .next t → Inv t

/-! ### The Timing Driver -/

/-- ADVANCE completes in every state and updates TimingState as R101 and R102 say, the new counter classified as R100
says, an event emitted exactly on entry to another mode (R103) with the updated line number (R104). -/
def Obligations.AdvanceUpdatesTimingState : Prop :=
  ∀ s : State, s.cycleCounter.toNat < 263 * s.thresholds.cycLine → s.scanlineIndex.toNat ≤ 262 →
    ∃ t, exec .advance s = .next t ∧
      t.cycleCounter.toNat =
        (if s.cycleCounter.toNat + 1 = 263 * s.thresholds.cycLine then 0 else s.cycleCounter.toNat + 1) ∧
      t.scanlineIndex.toNat =
        (if t.cycleCounter.toNat % s.thresholds.cycLine = 0 then (s.scanlineIndex.toNat + 1) % 263
         else s.scanlineIndex.toNat) ∧
      t.mode =
        (if t.cycleCounter.toNat < 192 * s.thresholds.cycLine then
          (if t.cycleCounter.toNat % s.thresholds.cycLine < s.thresholds.cycDraw then .draw else .hblank)
         else .vblank) ∧
      t.out.event = (if t.mode = s.mode then none else some (enterEvent t.mode t.scanlineIndex))

/-- An ADVANCE that emits no event writes cycleCounter and scanlineIndex and nothing else (R112), and one that enters Draw
writes the mode besides (R106: Service(EnterDraw) is nothing). -/
def Obligations.AdvanceWithoutServiceWritesTimingOnly : Prop :=
  ∀ s t : State, exec .advance s = .next t →
    (t.out.event = none →
      t = { s with cycleCounter := t.cycleCounter, scanlineIndex := t.scanlineIndex, out := ⟨none, 0#2, none⟩ }) ∧
    (∀ y, t.out.event = some (.enterDraw y) →
      t = { s with cycleCounter := t.cycleCounter, scanlineIndex := t.scanlineIndex, mode := .draw,
                   out := ⟨some (.enterDraw y), 0#2, none⟩ })

/-- The ADVANCE that enters HBlank runs, after its TimingState update, REFRESH, then RENDER of the line, then LINEFILL
of the line under forced blank and LINECOPY of it otherwise, each exactly as its own command (R106; `60_exceptions.md`
R205), and reports the event with RENDER's diagnostics (R204). -/
def Obligations.HBlankEntryRunsServiceCommands : Prop :=
  ∀ s t : State, ∀ y : Line, TimingOk s → exec .advance s = .next t → t.out.event = some (.enterHBlank y) →
    y.toNat ≤ 191 ∧ y = t.scanlineIndex ∧
    ∃ a b c : State,
      exec .refresh { s with cycleCounter := t.cycleCounter, scanlineIndex := t.scanlineIndex, mode := .hblank } =
        .next a ∧
      exec (.render y) a = .next b ∧
      exec (if forcedBlank s.cfg then .linefill y else .linecopy y) b = .next c ∧
      t = { c with out := ⟨some (.enterHBlank y), b.out.diagPulse, none⟩ }

/-- The ADVANCE that enters VBlank runs PRESENT after its TimingState update, exactly as the command, and reports both
(R106, `60_exceptions.md` R204, R205). -/
def Obligations.VBlankEntryRunsPresent : Prop :=
  ∀ s t : State, ∀ y : Line, exec .advance s = .next t → t.out.event = some (.enterVBlank y) →
    y = t.scanlineIndex ∧
    ∃ a : State,
      exec .present { s with cycleCounter := t.cycleCounter, scanlineIndex := t.scanlineIndex, mode := .vblank } =
        .next a ∧
      t = { a with out := ⟨some (.enterVBlank y), a.out.diagPulse, a.out.frame⟩ }

/-- The boundary table (R108): the counter value alone decides which event an ADVANCE emits. -/
def Obligations.EventBoundariesFollowTable : Prop :=
  ∀ s t : State, TimingOk s → exec .advance s = .next t → ∀ y : Line,
    (t.out.event = some (.enterHBlank y) ↔
      y.toNat < 192 ∧ t.cycleCounter.toNat = y.toNat * s.thresholds.cycLine + s.thresholds.cycDraw) ∧
    (t.out.event = some (.enterDraw y) ↔
      y.toNat < 192 ∧ t.cycleCounter.toNat = y.toNat * s.thresholds.cycLine) ∧
    (t.out.event = some (.enterVBlank y) ↔
      y.toNat = 192 ∧ t.cycleCounter.toNat = 192 * s.thresholds.cycLine)

/-- The only mode transitions (R107), with the lines at which they happen. -/
def Obligations.PhaseOrderIsCyclic : Prop :=
  ∀ s t : State, TimingOk s → exec .advance s = .next t → s.mode ≠ t.mode →
    (s.mode = .draw ∧ t.mode = .hblank ∧ t.scanlineIndex = s.scanlineIndex ∧ s.scanlineIndex.toNat ≤ 191) ∨
    (s.mode = .hblank ∧ t.mode = .draw ∧ t.scanlineIndex.toNat = s.scanlineIndex.toNat + 1 ∧
      s.scanlineIndex.toNat ≤ 190) ∨
    (s.mode = .hblank ∧ t.mode = .vblank ∧ s.scanlineIndex.toNat = 191 ∧ t.scanlineIndex.toNat = 192) ∨
    (s.mode = .vblank ∧ t.mode = .draw ∧ s.scanlineIndex.toNat = 262 ∧ t.scanlineIndex.toNat = 0)

/-- After an event the stated number of ADVANCE steps is silent and the next one emits (R105). -/
def Obligations.EventsAreNotReemitted : Prop :=
  ∀ s t : State, TimingOk s → exec .advance s = .next t → ∀ y : Line,
    (t.out.event = some (.enterDraw y) →
      eventsOf (advances (s.thresholds.cycDraw - 1)) t = [] ∧
      (eventsOf (advances s.thresholds.cycDraw) t).length = 1) ∧
    (t.out.event = some (.enterHBlank y) →
      eventsOf (advances (s.thresholds.cycLine - s.thresholds.cycDraw - 1)) t = [] ∧
      (eventsOf (advances (s.thresholds.cycLine - s.thresholds.cycDraw)) t).length = 1) ∧
    (t.out.event = some (.enterVBlank y) →
      eventsOf (advances (71 * s.thresholds.cycLine - 1)) t = [] ∧
      (eventsOf (advances (71 * s.thresholds.cycLine)) t).length = 1)

/-- Between RESET and the ADVANCE that enters the first HBlank nothing is emitted: no EnterDraw(0) opens the first frame,
and the first event is EnterHBlank(0) at ADVANCE number CYC_DRAW (`70_reset_and_hazards.md` R232). -/
def Obligations.FirstEventAfterResetIsHBlank : Prop :=
  ∀ s t : State, exec .reset s = .next t →
    eventsOf (advances (s.thresholds.cycDraw - 1)) t = [] ∧
    eventsOf (advances s.thresholds.cycDraw) t = [.enterHBlank 0#9]

/-- Only ADVANCE and RESET write TimingState (`10_state.md` R11 to R13, `40_timing.md` R109). -/
def Obligations.OtherCommandsKeepTimingState : Prop :=
  ∀ (i : Instr) (s t : State), exec i s = .next t → i ≠ .advance → i ≠ .reset →
    t.cycleCounter = s.cycleCounter ∧ t.mode = s.mode ∧ t.scanlineIndex = s.scanlineIndex

/-- One frame is the identity on TimingState: CYC_FRAME ADVANCE commands with any other commands but RESET, and any VRAM
changes, between them (R109; the stream of items is the model's form of the command stream, log entry 5). -/
def Obligations.FramePeriodReturnsTimingState : Prop :=
  ∀ (s : State) (items rest : List StreamItem), TimingOk s → s.stream = items ++ rest →
    (∀ c ∈ items, ∃ i, decode c.word = .ok i ∧ i ≠ .reset) →
    items.countP StreamItem.isAdvance = s.thresholds.cycFrame →
    ∃ t, Host.Core.run Sys2Proof.core items.length s = .next t ∧
      t.stream = rest ∧ t.cycleCounter = s.cycleCounter ∧ t.mode = s.mode ∧ t.scanlineIndex = s.scanlineIndex

/-- The events of one frame: one EnterHBlank and one EnterDraw for each line 0..191, one EnterVBlank(192), 385 in all
(R110). -/
def Obligations.FrameEventCensus : Prop :=
  ∀ s : State, TimingOk s →
    (eventsOf (advances s.thresholds.cycFrame) s).length = 385 ∧
    (∀ y : Line, y.toNat < 192 →
      (eventsOf (advances s.thresholds.cycFrame) s).count (.enterHBlank y) = 1 ∧
      (eventsOf (advances s.thresholds.cycFrame) s).count (.enterDraw y) = 1) ∧
    (eventsOf (advances s.thresholds.cycFrame) s).count (.enterVBlank 192#9) = 1

/-- In one frame the scanline index takes each value 0..262 for CYC_LINE cycles (R111). -/
def Obligations.ScanlineCensus : Prop :=
  ∀ (s : State) (y : Line), TimingOk s → y.toNat ≤ 262 →
    (linesOf (advances s.thresholds.cycFrame) s).count y = s.thresholds.cycLine

/-! ### The palette cache -/

/-- `Expand(r)` as arithmetic on the three channels (`41_palette.md` R120). -/
def Obligations.ExpandShiftsChannels : Prop :=
  ∀ r : RawColour,
    (expand r).toNat =
      0xFF000000 + (r.toNat % 32) * 8 * 65536 + (r.toNat / 32 % 32) * 8 * 256 + (r.toNat / 1024 % 32) * 8

/-- PALWR stores the raw value and sets the entry's flag, and does nothing else (R121). -/
def Obligations.PalwrStoresRawAndMarksDirty : Prop :=
  ∀ (i : BitVec 8) (v : RawColour) (s : State), ∃ t, exec (.palwr i v) s = .next t ∧
    (∀ j : Fin 256, t.raw[j] = (if j.val = i.toNat then v else s.raw[j])) ∧
    (∀ j : Fin 256, t.dirty[j] = (if j.val = i.toNat then true else s.dirty[j])) ∧
    t = { s with raw := t.raw, dirty := t.dirty, out := ⟨none, 0#2, none⟩ }

/-- REFRESH expands exactly the dirty entries and clears every flag, and does nothing else (R122). -/
def Obligations.RefreshRecomputesDirtyEntries : Prop :=
  ∀ s : State, ∃ t, exec .refresh s = .next t ∧
    (∀ j : Fin 256, t.derived[j] = (if s.dirty[j] then expand s.raw[j] else s.derived[j])) ∧
    (∀ j : Fin 256, t.dirty[j] = false) ∧
    t = { s with derived := t.derived, dirty := t.dirty, out := ⟨none, 0#2, none⟩ }

/-- After `PALWR i, v; REFRESH` derived[i] = Expand(v), whatever the state before (R123). -/
def Obligations.PaletteWriteRefreshRoundTrip : Prop :=
  ∀ (i : BitVec 8) (v : RawColour) (s : State), ∃ t, execAll [.palwr i v, .refresh] s = .next t ∧
    t.raw[i.toNat]'i.isLt = v ∧ t.derived[i.toNat]'i.isLt = expand v ∧ t.dirty[i.toNat]'i.isLt = false

/-- A REFRESH that follows one with no PALWR and no RESET between changes nothing (R123). -/
def Obligations.SecondRefreshChangesNothing : Prop :=
  ∀ (is : List Instr) (s t : State), (∀ i ∈ is, i ≠ .reset ∧ ∀ k v, i ≠ .palwr k v) →
    execAll (.refresh :: is) s = .next t →
    exec .refresh t = .next { t with out := ⟨none, 0#2, none⟩ }

/-- Only PALWR sets a dirty flag, and only its own entry's (R121 (e), `10_state.md` R27). -/
def Obligations.OnlyPalwrSetsDirtyFlags : Prop :=
  ∀ (i : Instr) (s t : State) (j : Fin 256), exec i s = .next t → s.dirty[j] = false → t.dirty[j] = true →
    ∃ (k : BitVec 8) (v : RawColour), i = .palwr k v ∧ j.val = k.toNat

/-- Every palette write before an ADVANCE that enters HBlank is reflected: after it the whole cache is clean and
current (`20_memory.md` R49, `41_palette.md` R124). -/
def Obligations.HBlankEntryMakesPaletteCurrent : Prop :=
  ∀ s t : State, ∀ y : Line, PaletteOk s → exec .advance s = .next t → t.out.event = some (.enterHBlank y) →
    ∀ i : Fin 256, t.derived[i] = expand s.raw[i] ∧ t.dirty[i] = false ∧ t.raw[i] = s.raw[i]

/-! ### The configuration registers -/

/-- CFGWR stores the value under the write mask of R191 in the named register, and changes no other register and nothing
else. -/
def Obligations.CfgwrStoresUnderMask : Prop :=
  ∀ (r : CfgReg) (v : BitVec 32) (s : State), ∃ t, exec (.cfgwr r v) s = .next t ∧
    (cfgRead t.cfg r).toNat =
      (match r with
       | .dispctl => v.toNat % 2 ^ 4
       | .bgctl _ => v.toNat % 2 ^ 9
       | .bgtilebase _ => v.toNat
       | .bgmapbase _ => v.toNat
       | .bgscrollx _ => v.toNat % 2 ^ 16
       | .bgscrolly _ => v.toNat % 2 ^ 16) ∧
    (∀ r' : CfgReg, r' ≠ r → cfgRead t.cfg r' = cfgRead s.cfg r') ∧
    t = { s with cfg := t.cfg, out := ⟨none, 0#2, none⟩ }

/-- The fields of DISPCTL and BGCTL after a write (`10_state.md` R19, R20). -/
def Obligations.CfgwrSetsFields : Prop :=
  ∀ (l : Fin 4) (v : BitVec 32) (s : State),
    (∃ t, exec (.cfgwr .dispctl v) s = .next t ∧ (displayMode t.cfg).toNat = v.toNat % 8 ∧
      (forcedBlank t.cfg = true ↔ v.toNat / 8 % 2 = 1)) ∧
    (∃ t, exec (.cfgwr (.bgctl l) v) s = .next t ∧
      (layerEnabled t.cfg.layers[l] = true ↔ v.toNat % 2 = 1) ∧
      (layerPriority t.cfg.layers[l]).toNat = v.toNat / 2 % 4 ∧
      (layerDepth8 t.cfg.layers[l] = true ↔ v.toNat / 8 % 2 = 1) ∧
      (layerSizeClass t.cfg.layers[l]).toNat = v.toNat / 16 % 4 ∧
      (layerModeTag t.cfg.layers[l]).toNat = v.toNat / 64 % 8)

/-! ### The compositor -/

/-- LayerOrder is the four layers sorted by (priority, number) (`42_compositor.md` R138). -/
def Obligations.LayerOrderSortsByPriority : Prop :=
  ∀ cfg : CfgRegs, (layerOrder cfg).Perm [0, 1, 2, 3] ∧
    (layerOrder cfg).Pairwise fun l m =>
      (layerPriority cfg.layers[l]).toNat < (layerPriority cfg.layers[m]).toNat ∨
        layerPriority cfg.layers[l] = layerPriority cfg.layers[m] ∧ l < m

/-- With the samples `sample` of the four layers at a pixel, its colour is that of the frontmost enabled layer whose sample
is not transparent (lower priority value first, then lower number), resolved through `derived` or Expand, else the
backdrop derived[0] (R137 to R140). -/
def Obligations.FrontLayerWinsElseBackdrop : Prop :=
  ∀ (cfg : CfgRegs) (derived : Vector Colour 256) (sample : Fin 4 → Sample),
    (∀ l : Fin 4, layerEnabled cfg.layers[l] = true → sample l ≠ .transparent →
      (∀ m : Fin 4, m ≠ l → layerEnabled cfg.layers[m] = true → sample m ≠ .transparent →
        (layerPriority cfg.layers[l]).toNat < (layerPriority cfg.layers[m]).toNat ∨
          layerPriority cfg.layers[l] = layerPriority cfg.layers[m] ∧ l < m) →
      (∀ i : BitVec 8, sample l = .indexed i → composePixel cfg derived sample = derived[i.toNat]'i.isLt) ∧
      (∀ r : RawColour, sample l = .direct r → composePixel cfg derived sample = expand r)) ∧
    ((∀ l : Fin 4, layerEnabled cfg.layers[l] = true → sample l = .transparent) →
      composePixel cfg derived sample = derived[0])

/-- In a supported mode RENDER fills row A with the pixels composed from the samples of the mode (the tile sampler in modes
0 and 1, the open ExtSample of the mode in 2 to 5) and row B with the open RowB, and changes nothing else (R135, R136,
R148, R149). -/
def Obligations.RenderFillsBothRows : Prop :=
  ∀ (y : Line) (s : State), y.toNat ≤ 262 → (displayMode s.cfg).toNat ≤ 5 →
    ∃ (sample : Fin 4 → Fin 256 → Sample) (t : State), exec (.render y) s = .next t ∧
      (∀ l x,
        ((displayMode s.cfg).toNat = 0 → sample l x = sampleOf .tile0 s.cfg s.vram l x y) ∧
        ((displayMode s.cfg).toNat = 1 → sample l x = sampleOf .tile1 s.cfg s.vram l x y) ∧
        ((displayMode s.cfg).toNat = 2 → sample l x = Config.extSample .mode2 s.cfg (memByte s.vram) l x y) ∧
        ((displayMode s.cfg).toNat = 3 → sample l x = Config.extSample .mode3 s.cfg (memByte s.vram) l x y) ∧
        ((displayMode s.cfg).toNat = 4 → sample l x = Config.extSample .mode4 s.cfg (memByte s.vram) l x y) ∧
        ((displayMode s.cfg).toNat = 5 → sample l x = Config.extSample .mode5 s.cfg (memByte s.vram) l x y)) ∧
      (∀ x : Fin 256, t.lineA[x] = composePixel s.cfg s.derived fun l => sample l x) ∧
      t.lineB = Config.rowB s.cfg (memByte s.vram) s.derived y ∧
      t = { s with lineA := t.lineA, lineB := t.lineB, out := ⟨none, 0#2, none⟩ }

/-- In display modes 6 and 7 RENDER leaves both rows as they were, raises diagnostic 0 and completes (R150). -/
def Obligations.RenderUnsupportedModeKeepsRows : Prop :=
  ∀ (y : Line) (s : State), y.toNat ≤ 262 → 6 ≤ (displayMode s.cfg).toNat →
    ∃ t, exec (.render y) s = .next t ∧ t.lineA = s.lineA ∧ t.lineB = s.lineB ∧
      unsupportedModeFlag t = true ∧ presentFailFlag t = presentFailFlag s ∧ t.out.diagPulse = 0b01#2 ∧
      t = { s with diag := t.diag, out := ⟨none, t.out.diagPulse, none⟩ }

/-- The tile sampler as arithmetic on the registers and the bytes of VRAM, the same function in both tile modes (R141 to
R147, `30_encoding.md` R77 to R79, R81, `20_memory.md` R41, R45). -/
def Obligations.TileSampleFollowsAddressRules : Prop :=
  ∀ (cfg : CfgRegs) (vram : Memory) (l : Fin 4) (x : Fin 256) (y : Line),
    let r := cfg.layers[l]
    let byteAt := fun n : Nat => (memByte vram (BitVec.ofNat 32 n)).toNat
    let sc := r.bgctl.toNat / 16 % 4
    let w := if sc % 2 = 1 then 512 else 256
    let h := if sc / 2 = 1 then 512 else 256
    let px := (r.scrollX.toNat % 65536 + x.val) % w
    let py := (r.scrollY.toNat % 65536 + y.toNat) % h
    let tx := px / 8
    let ty := py / 8
    let blk := tx / 32 + ty / 32 * (w / 256)
    let ea := r.mapBase.toNat + blk * 0x800 + (ty % 32 * 32 + tx % 32) * 2
    let e := byteAt ea + 256 * byteAt (ea + 1)
    let fx := if e / 1024 % 2 = 1 then 7 - px % 8 else px % 8
    let fy := if e / 2048 % 2 = 1 then 7 - py % 8 else py % 8
    let b4 := byteAt (r.tileBase.toNat + e % 1024 * 32 + fy * 4 + fx / 2)
    let v4 := if fx % 2 = 0 then b4 % 16 else b4 / 16
    let v8 := byteAt (r.tileBase.toNat + e % 1024 * 64 + fy * 8 + fx)
    let sample :=
      if r.bgctl.toNat / 8 % 2 = 1 then (if v8 = 0 then Sample.transparent else .indexed (BitVec.ofNat 8 v8))
      else (if v4 = 0 then .transparent else .indexed (BitVec.ofNat 8 (e / 4096 * 16 + v4)))
    sampleOf .tile0 cfg vram l x y = sample ∧ sampleOf .tile1 cfg vram l x y = sample

/-- A tile never gives a direct colour, nor palette index 0; at 4 bits per pixel it gives no multiple of 16 (R140, R144,
R146). -/
def Obligations.TileSamplesNameShownEntries : Prop :=
  ∀ (cfg : CfgRegs) (vram : Memory) (l : Fin 4) (x : Fin 256) (y : Line),
    (∀ r, sampleOf .tile0 cfg vram l x y ≠ .direct r) ∧
    (∀ i, sampleOf .tile0 cfg vram l x y = .indexed i →
      i.toNat ≠ 0 ∧ (layerDepth8 cfg.layers[l] = false → i.toNat % 16 ≠ 0))

/-- The rows RENDER fills depend on cfg, the bytes of VRAM, `derived` and y only (R135, R148, R149; `70_reset_and_hazards.md`
R239: not on `raw` or `dirty`). -/
def Obligations.RenderReadsOnlyItsInputs : Prop :=
  ∀ (y : Line) (s s' t t' : State), s.cfg = s'.cfg → (∀ a, memByte s.vram a = memByte s'.vram a) →
    s.derived = s'.derived → (displayMode s.cfg).toNat ≤ 5 →
    exec (.render y) s = .next t → exec (.render y) s' = .next t' →
    t.lineA = t'.lineA ∧ t.lineB = t'.lineB

/-! ### The frame buffer -/

/-- The layout of the one ordered sequence FB (`20_memory.md` R44): every index is that of exactly one pixel of one
screen. -/
def Obligations.FrameBufferLayoutIsRowMajor : Prop :=
  ∀ (fb : FrameBuffer) (k : Fin 98304),
    (∀ (y : Fin 192) (x : Fin 256), k.val = fbIndexA y.val x → fb.entry k = fb.screenA[y][x]) ∧
    (∀ (y : Fin 192) (x : Fin 256), k.val = fbIndexB y.val x → fb.entry k = fb.screenB[y][x]) ∧
    ((∃ (y : Fin 192) (x : Fin 256), k.val = fbIndexA y.val x) ↔
      ¬ ∃ (y : Fin 192) (x : Fin 256), k.val = fbIndexB y.val x)

/-- LINECOPY copies A and B to the line's 512 entries of FB and changes no other entry and nothing else
(`43_framebuffer.md` R170). -/
def Obligations.LinecopyWritesItsLine : Prop :=
  ∀ (y : Line) (s : State), y.toNat ≤ 191 → ∃ t, exec (.linecopy y) s = .next t ∧
    (∀ (k : Fin 98304) (x : Fin 256), k.val = fbIndexA y.toNat x → t.fb.entry k = s.lineA[x]) ∧
    (∀ (k : Fin 98304) (x : Fin 256), k.val = fbIndexB y.toNat x → t.fb.entry k = s.lineB[x]) ∧
    (∀ k : Fin 98304, (∀ x : Fin 256, k.val ≠ fbIndexA y.toNat x ∧ k.val ≠ fbIndexB y.toNat x) →
      t.fb.entry k = s.fb.entry k) ∧
    t = { s with fb := t.fb, out := ⟨none, 0#2, none⟩ }

/-- LINEFILL writes WHITE_FILL to the line's 512 entries of FB and changes no other entry and nothing else (R171). -/
def Obligations.LinefillWhitensItsLine : Prop :=
  ∀ (y : Line) (s : State), y.toNat ≤ 191 → ∃ t, exec (.linefill y) s = .next t ∧
    (∀ (k : Fin 98304) (x : Fin 256), k.val = fbIndexA y.toNat x ∨ k.val = fbIndexB y.toNat x →
      t.fb.entry k = 0xFFFFFFFF#32) ∧
    (∀ k : Fin 98304, (∀ x : Fin 256, k.val ≠ fbIndexA y.toNat x ∧ k.val ≠ fbIndexB y.toNat x) →
      t.fb.entry k = s.fb.entry k) ∧
    t = { s with fb := t.fb, out := ⟨none, 0#2, none⟩ }

/-- PRESENT hands over FB as it is and raises diagnostic 1 exactly when the sink answers failure; nothing else changes
(R173). -/
def Obligations.PresentHandsOverFrame : Prop :=
  ∀ s : State, ∃ t, exec .present s = .next t ∧
    (∀ k : Fin 98304, presentRead t k = some (s.fb.entry k)) ∧
    presentFailFlag t = (presentFailFlag s || !s.sinkOk) ∧ unsupportedModeFlag t = unsupportedModeFlag s ∧
    t.out.diagPulse = (if s.sinkOk then 0b00#2 else 0b10#2) ∧
    t = { s with diag := t.diag, out := ⟨none, t.out.diagPulse, some s.fb⟩ }

/-- A forced-blank frame: after CYC_FRAME ADVANCE commands with the flag set every entry of FB is white, whatever it held
before (R172). -/
def Obligations.ForcedBlankFrameIsWhite : Prop :=
  ∀ s : State, TimingOk s → forcedBlank s.cfg = true →
    ∃ t, execAll (advances s.thresholds.cycFrame) s = .next t ∧
      ∀ k : Fin 98304, t.fb.entry k = 0xFFFFFFFF#32

/-! ### The block as a whole -/

/-- Events come from ADVANCE only; a frame from PRESENT or the ADVANCE that enters VBlank only; the unsupportedMode pulse
from RENDER or the ADVANCE that enters HBlank only, the presentFail pulse from PRESENT or the ADVANCE that enters VBlank
only, so the two never come from one command (`10_state.md` R33, `60_exceptions.md` R201, R204, `43_framebuffer.md`
R175). -/
def Obligations.OutputsComeFromTheirCommands : Prop :=
  ∀ (i : Instr) (s t : State), exec i s = .next t →
    (t.out.event ≠ none → i = .advance) ∧
    (t.out.frame ≠ none → i = .present ∨ i = .advance ∧ ∃ y, t.out.event = some (.enterVBlank y)) ∧
    (t.out.diagPulse.getLsbD 0 = true →
      (∃ y, i = .render y) ∨ i = .advance ∧ ∃ y, t.out.event = some (.enterHBlank y)) ∧
    (t.out.diagPulse.getLsbD 1 = true →
      i = .present ∨ i = .advance ∧ ∃ y, t.out.event = some (.enterVBlank y)) ∧
    t.out.diagPulse ≠ 0b11#2

/-- The port codes (`30_encoding.md` R73, R74): Draw, HBlank and VBlank are 0, 1 and 2 on mode_o; no event, EnterDraw,
EnterHBlank and EnterVBlank are 0, 1, 2 and 3 on evt_o with the event's line, or 0 without one, on evt_line_o. So after
an ADVANCE that changes the mode the event code is the mode code plus 1 and its line is line_o. -/
def Obligations.EventPortFollowsModePort : Prop :=
  (∀ s : State,
    (modeO s).toNat = (match s.mode with | .draw => 0 | .hblank => 1 | .vblank => 2) ∧
    (evtO s).toNat =
      (match s.out.event with
       | none => 0 | some (.enterDraw _) => 1 | some (.enterHBlank _) => 2 | some (.enterVBlank _) => 3) ∧
    (s.out.event = none → evtLineO s = 0#9) ∧
    (∀ y, s.out.event = some (.enterDraw y) ∨ s.out.event = some (.enterHBlank y) ∨
      s.out.event = some (.enterVBlank y) → evtLineO s = y)) ∧
  ∀ s t : State, exec .advance s = .next t →
    (t.mode ≠ s.mode → (evtO t).toNat = (modeO t).toNat + 1 ∧ evtLineO t = lineO t) ∧
    (t.mode = s.mode → evtO t = 0b00#2 ∧ evtLineO t = 0#9)

/-- DIAG gains exactly the bits of the command's pulse and loses none but by RESET (`10_state.md` R24, `60_exceptions.md`
R201). -/
def Obligations.DiagnosticBitsAreSticky : Prop :=
  ∀ (i : Instr) (s t : State), exec i s = .next t → i ≠ .reset → t.diag = s.diag ||| t.out.diagPulse

/-- No operation reads DIAG: another value of it changes nothing but DIAG itself (R24). -/
def Obligations.DiagIsNeverRead : Prop :=
  ∀ (i : Instr) (s t : State) (d : BitVec 2), exec i s = .next t →
    ∃ t', exec i { s with diag := d } = .next t' ∧ t' = { t with diag := t'.diag }

/-- Which command may write which state (`20_memory.md` R54, `10_state.md` R25 to R30): everything else keeps it. -/
def Obligations.StateIsWrittenByItsOwners : Prop :=
  ∀ (i : Instr) (s t : State), exec i s = .next t →
    (t.cfg ≠ s.cfg → i = .reset ∨ ∃ r v, i = .cfgwr r v) ∧
    (t.raw ≠ s.raw → i = .reset ∨ ∃ k v, i = .palwr k v) ∧
    (t.derived ≠ s.derived → i = .reset ∨ i = .refresh ∨ i = .advance) ∧
    (t.lineA ≠ s.lineA ∨ t.lineB ≠ s.lineB → i = .advance ∨ ∃ y, i = .render y) ∧
    (t.fb ≠ s.fb → i = .reset ∨ i = .advance ∨ (∃ y, i = .linecopy y) ∨ ∃ y, i = .linefill y) ∧
    t.thresholds = s.thresholds ∧ t.sinkOk = s.sinkOk ∧ t.stream = s.stream

/-- The block never writes VRAM (`44_control_ops.md` R196, `00_scope.md` R8). -/
def Obligations.NoCommandWritesVram : Prop :=
  ∀ (i : Instr) (s t : State), exec i s = .next t → ∀ a, memByte t.vram a = memByte s.vram a

/-! ### The tile/map memory -/

/-- `VramRead(addr, 2)` is little-endian and wraps modulo 2^32 (`20_memory.md` R41, R45). -/
def Obligations.VramReadIsLittleEndian : Prop :=
  ∀ (m : Memory) (a : Addr),
    (vramRead2 m a).toNat =
      (vramRead1 m a).toNat + 256 * (vramRead1 m (BitVec.ofNat 32 ((a.toNat + 1) % 2 ^ 32))).toNat

/-- A byte the collaborator writes is read back and no other byte changes; of several changes the last one to an address
is read back (`10_state.md` R32 (b)); the canonical form makes equal contents equal data (the representation is the
model's, log entry 3). -/
def Obligations.VramWritesAreReadBack : Prop :=
  (∀ (m : Memory) (a b : Addr) (v : Byte), Memory.wf m →
    memByte (memWrite m a v) b = (if b = a then v else memByte m b)) ∧
  (∀ (m : Memory) (ws : List (Addr × Byte)) (b : Addr), Memory.wf m →
    memByte (memWrites m ws) b =
      (match ws.reverse.find? fun w => decide (w.1 = b) with
       | some w => w.2
       | none => memByte m b)) ∧
  ∀ m m' : Memory, Memory.wf m → Memory.wf m' → (∀ a, memByte m a = memByte m' a) → m = m'
end

