-- ==== Sys2Proof/Laws/State.lean ====
section
/-!
SUPPORT. One lemma per field per state update: what each shared operation leaves in each field of the state.
-/

namespace Sys2Proof.Machine

/-! ### beginCommand -/

@[simp] theorem beginCommand_cycleCounter (s : State) : (beginCommand s).cycleCounter = s.cycleCounter := rfl
@[simp] theorem beginCommand_mode (s : State) : (beginCommand s).mode = s.mode := rfl
@[simp] theorem beginCommand_scanlineIndex (s : State) : (beginCommand s).scanlineIndex = s.scanlineIndex := rfl
@[simp] theorem beginCommand_cfg (s : State) : (beginCommand s).cfg = s.cfg := rfl
@[simp] theorem beginCommand_diag (s : State) : (beginCommand s).diag = s.diag := rfl
@[simp] theorem beginCommand_raw (s : State) : (beginCommand s).raw = s.raw := rfl
@[simp] theorem beginCommand_derived (s : State) : (beginCommand s).derived = s.derived := rfl
@[simp] theorem beginCommand_dirty (s : State) : (beginCommand s).dirty = s.dirty := rfl
@[simp] theorem beginCommand_lineA (s : State) : (beginCommand s).lineA = s.lineA := rfl
@[simp] theorem beginCommand_lineB (s : State) : (beginCommand s).lineB = s.lineB := rfl
@[simp] theorem beginCommand_fb (s : State) : (beginCommand s).fb = s.fb := rfl
@[simp] theorem beginCommand_thresholds (s : State) : (beginCommand s).thresholds = s.thresholds := rfl
@[simp] theorem beginCommand_vram (s : State) : (beginCommand s).vram = s.vram := rfl
@[simp] theorem beginCommand_sinkOk (s : State) : (beginCommand s).sinkOk = s.sinkOk := rfl
@[simp] theorem beginCommand_stream (s : State) : (beginCommand s).stream = s.stream := rfl
@[simp] theorem beginCommand_out (s : State) : (beginCommand s).out = Out.none := rfl

/-! ### idle -/

@[simp] theorem idle_cycleCounter (s : State) : (idle s).cycleCounter = s.cycleCounter := rfl
@[simp] theorem idle_mode (s : State) : (idle s).mode = s.mode := rfl
@[simp] theorem idle_scanlineIndex (s : State) : (idle s).scanlineIndex = s.scanlineIndex := rfl
@[simp] theorem idle_cfg (s : State) : (idle s).cfg = s.cfg := rfl
@[simp] theorem idle_diag (s : State) : (idle s).diag = s.diag := rfl
@[simp] theorem idle_raw (s : State) : (idle s).raw = s.raw := rfl
@[simp] theorem idle_derived (s : State) : (idle s).derived = s.derived := rfl
@[simp] theorem idle_dirty (s : State) : (idle s).dirty = s.dirty := rfl
@[simp] theorem idle_lineA (s : State) : (idle s).lineA = s.lineA := rfl
@[simp] theorem idle_lineB (s : State) : (idle s).lineB = s.lineB := rfl
@[simp] theorem idle_fb (s : State) : (idle s).fb = s.fb := rfl
@[simp] theorem idle_thresholds (s : State) : (idle s).thresholds = s.thresholds := rfl
@[simp] theorem idle_vram (s : State) : (idle s).vram = s.vram := rfl
@[simp] theorem idle_sinkOk (s : State) : (idle s).sinkOk = s.sinkOk := rfl
@[simp] theorem idle_stream (s : State) : (idle s).stream = s.stream := rfl
@[simp] theorem idle_out (s : State) : (idle s).out = Out.none := rfl

/-! ### emit -/

@[simp] theorem emit_cycleCounter (e : PhaseEvent) (s : State) : (emit e s).cycleCounter = s.cycleCounter := rfl
@[simp] theorem emit_mode (e : PhaseEvent) (s : State) : (emit e s).mode = s.mode := rfl
@[simp] theorem emit_scanlineIndex (e : PhaseEvent) (s : State) : (emit e s).scanlineIndex = s.scanlineIndex := rfl
@[simp] theorem emit_cfg (e : PhaseEvent) (s : State) : (emit e s).cfg = s.cfg := rfl
@[simp] theorem emit_diag (e : PhaseEvent) (s : State) : (emit e s).diag = s.diag := rfl
@[simp] theorem emit_raw (e : PhaseEvent) (s : State) : (emit e s).raw = s.raw := rfl
@[simp] theorem emit_derived (e : PhaseEvent) (s : State) : (emit e s).derived = s.derived := rfl
@[simp] theorem emit_dirty (e : PhaseEvent) (s : State) : (emit e s).dirty = s.dirty := rfl
@[simp] theorem emit_lineA (e : PhaseEvent) (s : State) : (emit e s).lineA = s.lineA := rfl
@[simp] theorem emit_lineB (e : PhaseEvent) (s : State) : (emit e s).lineB = s.lineB := rfl
@[simp] theorem emit_fb (e : PhaseEvent) (s : State) : (emit e s).fb = s.fb := rfl
@[simp] theorem emit_thresholds (e : PhaseEvent) (s : State) : (emit e s).thresholds = s.thresholds := rfl
@[simp] theorem emit_vram (e : PhaseEvent) (s : State) : (emit e s).vram = s.vram := rfl
@[simp] theorem emit_sinkOk (e : PhaseEvent) (s : State) : (emit e s).sinkOk = s.sinkOk := rfl
@[simp] theorem emit_stream (e : PhaseEvent) (s : State) : (emit e s).stream = s.stream := rfl
@[simp] theorem emit_out (e : PhaseEvent) (s : State) : (emit e s).out = { s.out with event := some e } := rfl

/-! ### diag -/

@[simp] theorem diag_cycleCounter (k : DiagCode) (s : State) : (diag k s).cycleCounter = s.cycleCounter := rfl
@[simp] theorem diag_mode (k : DiagCode) (s : State) : (diag k s).mode = s.mode := rfl
@[simp] theorem diag_scanlineIndex (k : DiagCode) (s : State) : (diag k s).scanlineIndex = s.scanlineIndex := rfl
@[simp] theorem diag_cfg (k : DiagCode) (s : State) : (diag k s).cfg = s.cfg := rfl
@[simp] theorem diag_diag (k : DiagCode) (s : State) : (diag k s).diag = raiseBit s.diag k := rfl
@[simp] theorem diag_raw (k : DiagCode) (s : State) : (diag k s).raw = s.raw := rfl
@[simp] theorem diag_derived (k : DiagCode) (s : State) : (diag k s).derived = s.derived := rfl
@[simp] theorem diag_dirty (k : DiagCode) (s : State) : (diag k s).dirty = s.dirty := rfl
@[simp] theorem diag_lineA (k : DiagCode) (s : State) : (diag k s).lineA = s.lineA := rfl
@[simp] theorem diag_lineB (k : DiagCode) (s : State) : (diag k s).lineB = s.lineB := rfl
@[simp] theorem diag_fb (k : DiagCode) (s : State) : (diag k s).fb = s.fb := rfl
@[simp] theorem diag_thresholds (k : DiagCode) (s : State) : (diag k s).thresholds = s.thresholds := rfl
@[simp] theorem diag_vram (k : DiagCode) (s : State) : (diag k s).vram = s.vram := rfl
@[simp] theorem diag_sinkOk (k : DiagCode) (s : State) : (diag k s).sinkOk = s.sinkOk := rfl
@[simp] theorem diag_stream (k : DiagCode) (s : State) : (diag k s).stream = s.stream := rfl
@[simp] theorem diag_out (k : DiagCode) (s : State) : (diag k s).out = { s.out with diagPulse := raiseBit s.out.diagPulse k } := rfl

/-! ### paletteWrite -/

@[simp] theorem paletteWrite_cycleCounter (i : BitVec 8) (v : RawColour) (s : State) : (paletteWrite i v s).cycleCounter = s.cycleCounter := rfl
@[simp] theorem paletteWrite_mode (i : BitVec 8) (v : RawColour) (s : State) : (paletteWrite i v s).mode = s.mode := rfl
@[simp] theorem paletteWrite_scanlineIndex (i : BitVec 8) (v : RawColour) (s : State) : (paletteWrite i v s).scanlineIndex = s.scanlineIndex := rfl
@[simp] theorem paletteWrite_cfg (i : BitVec 8) (v : RawColour) (s : State) : (paletteWrite i v s).cfg = s.cfg := rfl
@[simp] theorem paletteWrite_diag (i : BitVec 8) (v : RawColour) (s : State) : (paletteWrite i v s).diag = s.diag := rfl
@[simp] theorem paletteWrite_raw (i : BitVec 8) (v : RawColour) (s : State) : (paletteWrite i v s).raw = s.raw.set i.toNat v i.isLt := rfl
@[simp] theorem paletteWrite_derived (i : BitVec 8) (v : RawColour) (s : State) : (paletteWrite i v s).derived = s.derived := rfl
@[simp] theorem paletteWrite_dirty (i : BitVec 8) (v : RawColour) (s : State) : (paletteWrite i v s).dirty = setDirty s.dirty i := rfl
@[simp] theorem paletteWrite_lineA (i : BitVec 8) (v : RawColour) (s : State) : (paletteWrite i v s).lineA = s.lineA := rfl
@[simp] theorem paletteWrite_lineB (i : BitVec 8) (v : RawColour) (s : State) : (paletteWrite i v s).lineB = s.lineB := rfl
@[simp] theorem paletteWrite_fb (i : BitVec 8) (v : RawColour) (s : State) : (paletteWrite i v s).fb = s.fb := rfl
@[simp] theorem paletteWrite_thresholds (i : BitVec 8) (v : RawColour) (s : State) : (paletteWrite i v s).thresholds = s.thresholds := rfl
@[simp] theorem paletteWrite_vram (i : BitVec 8) (v : RawColour) (s : State) : (paletteWrite i v s).vram = s.vram := rfl
@[simp] theorem paletteWrite_sinkOk (i : BitVec 8) (v : RawColour) (s : State) : (paletteWrite i v s).sinkOk = s.sinkOk := rfl
@[simp] theorem paletteWrite_stream (i : BitVec 8) (v : RawColour) (s : State) : (paletteWrite i v s).stream = s.stream := rfl
@[simp] theorem paletteWrite_out (i : BitVec 8) (v : RawColour) (s : State) : (paletteWrite i v s).out = s.out := rfl

/-! ### refresh -/

@[simp] theorem refresh_cycleCounter (s : State) : (refresh s).cycleCounter = s.cycleCounter := by rfl
@[simp] theorem refresh_mode (s : State) : (refresh s).mode = s.mode := by rfl
@[simp] theorem refresh_scanlineIndex (s : State) : (refresh s).scanlineIndex = s.scanlineIndex := by rfl
@[simp] theorem refresh_cfg (s : State) : (refresh s).cfg = s.cfg := by rfl
@[simp] theorem refresh_diag (s : State) : (refresh s).diag = s.diag := by rfl
@[simp] theorem refresh_raw (s : State) : (refresh s).raw = s.raw := by rfl
@[simp] theorem refresh_derived (s : State) : (refresh s).derived = refreshedDerived s.raw s.derived s.dirty := by rfl
@[simp] theorem refresh_dirty (s : State) : (refresh s).dirty = clearDirty := by rfl
@[simp] theorem refresh_lineA (s : State) : (refresh s).lineA = s.lineA := by rfl
@[simp] theorem refresh_lineB (s : State) : (refresh s).lineB = s.lineB := by rfl
@[simp] theorem refresh_fb (s : State) : (refresh s).fb = s.fb := by rfl
@[simp] theorem refresh_thresholds (s : State) : (refresh s).thresholds = s.thresholds := by rfl
@[simp] theorem refresh_vram (s : State) : (refresh s).vram = s.vram := by rfl
@[simp] theorem refresh_sinkOk (s : State) : (refresh s).sinkOk = s.sinkOk := by rfl
@[simp] theorem refresh_stream (s : State) : (refresh s).stream = s.stream := by rfl
@[simp] theorem refresh_out (s : State) : (refresh s).out = s.out := by rfl

/-! ### lineCopy -/

@[simp] theorem lineCopy_cycleCounter (y : Line) (s : State) : (lineCopy y s).cycleCounter = s.cycleCounter := rfl
@[simp] theorem lineCopy_mode (y : Line) (s : State) : (lineCopy y s).mode = s.mode := rfl
@[simp] theorem lineCopy_scanlineIndex (y : Line) (s : State) : (lineCopy y s).scanlineIndex = s.scanlineIndex := rfl
@[simp] theorem lineCopy_cfg (y : Line) (s : State) : (lineCopy y s).cfg = s.cfg := rfl
@[simp] theorem lineCopy_diag (y : Line) (s : State) : (lineCopy y s).diag = s.diag := rfl
@[simp] theorem lineCopy_raw (y : Line) (s : State) : (lineCopy y s).raw = s.raw := rfl
@[simp] theorem lineCopy_derived (y : Line) (s : State) : (lineCopy y s).derived = s.derived := rfl
@[simp] theorem lineCopy_dirty (y : Line) (s : State) : (lineCopy y s).dirty = s.dirty := rfl
@[simp] theorem lineCopy_lineA (y : Line) (s : State) : (lineCopy y s).lineA = s.lineA := rfl
@[simp] theorem lineCopy_lineB (y : Line) (s : State) : (lineCopy y s).lineB = s.lineB := rfl
@[simp] theorem lineCopy_fb (y : Line) (s : State) : (lineCopy y s).fb = fbWriteLine s.fb y s.lineA s.lineB := rfl
@[simp] theorem lineCopy_thresholds (y : Line) (s : State) : (lineCopy y s).thresholds = s.thresholds := rfl
@[simp] theorem lineCopy_vram (y : Line) (s : State) : (lineCopy y s).vram = s.vram := rfl
@[simp] theorem lineCopy_sinkOk (y : Line) (s : State) : (lineCopy y s).sinkOk = s.sinkOk := rfl
@[simp] theorem lineCopy_stream (y : Line) (s : State) : (lineCopy y s).stream = s.stream := rfl
@[simp] theorem lineCopy_out (y : Line) (s : State) : (lineCopy y s).out = s.out := rfl

/-! ### lineFill -/

@[simp] theorem lineFill_cycleCounter (y : Line) (s : State) : (lineFill y s).cycleCounter = s.cycleCounter := rfl
@[simp] theorem lineFill_mode (y : Line) (s : State) : (lineFill y s).mode = s.mode := rfl
@[simp] theorem lineFill_scanlineIndex (y : Line) (s : State) : (lineFill y s).scanlineIndex = s.scanlineIndex := rfl
@[simp] theorem lineFill_cfg (y : Line) (s : State) : (lineFill y s).cfg = s.cfg := rfl
@[simp] theorem lineFill_diag (y : Line) (s : State) : (lineFill y s).diag = s.diag := rfl
@[simp] theorem lineFill_raw (y : Line) (s : State) : (lineFill y s).raw = s.raw := rfl
@[simp] theorem lineFill_derived (y : Line) (s : State) : (lineFill y s).derived = s.derived := rfl
@[simp] theorem lineFill_dirty (y : Line) (s : State) : (lineFill y s).dirty = s.dirty := rfl
@[simp] theorem lineFill_lineA (y : Line) (s : State) : (lineFill y s).lineA = s.lineA := rfl
@[simp] theorem lineFill_lineB (y : Line) (s : State) : (lineFill y s).lineB = s.lineB := rfl
@[simp] theorem lineFill_fb (y : Line) (s : State) : (lineFill y s).fb = fbWriteLine s.fb y whiteRow whiteRow := rfl
@[simp] theorem lineFill_thresholds (y : Line) (s : State) : (lineFill y s).thresholds = s.thresholds := rfl
@[simp] theorem lineFill_vram (y : Line) (s : State) : (lineFill y s).vram = s.vram := rfl
@[simp] theorem lineFill_sinkOk (y : Line) (s : State) : (lineFill y s).sinkOk = s.sinkOk := rfl
@[simp] theorem lineFill_stream (y : Line) (s : State) : (lineFill y s).stream = s.stream := rfl
@[simp] theorem lineFill_out (y : Line) (s : State) : (lineFill y s).out = s.out := rfl

/-! ### handOver -/

@[simp] theorem handOver_cycleCounter (s : State) : (handOver s).cycleCounter = s.cycleCounter := rfl
@[simp] theorem handOver_mode (s : State) : (handOver s).mode = s.mode := rfl
@[simp] theorem handOver_scanlineIndex (s : State) : (handOver s).scanlineIndex = s.scanlineIndex := rfl
@[simp] theorem handOver_cfg (s : State) : (handOver s).cfg = s.cfg := rfl
@[simp] theorem handOver_diag (s : State) : (handOver s).diag = s.diag := rfl
@[simp] theorem handOver_raw (s : State) : (handOver s).raw = s.raw := rfl
@[simp] theorem handOver_derived (s : State) : (handOver s).derived = s.derived := rfl
@[simp] theorem handOver_dirty (s : State) : (handOver s).dirty = s.dirty := rfl
@[simp] theorem handOver_lineA (s : State) : (handOver s).lineA = s.lineA := rfl
@[simp] theorem handOver_lineB (s : State) : (handOver s).lineB = s.lineB := rfl
@[simp] theorem handOver_fb (s : State) : (handOver s).fb = s.fb := rfl
@[simp] theorem handOver_thresholds (s : State) : (handOver s).thresholds = s.thresholds := rfl
@[simp] theorem handOver_vram (s : State) : (handOver s).vram = s.vram := rfl
@[simp] theorem handOver_sinkOk (s : State) : (handOver s).sinkOk = s.sinkOk := rfl
@[simp] theorem handOver_stream (s : State) : (handOver s).stream = s.stream := rfl
@[simp] theorem handOver_out (s : State) : (handOver s).out = { s.out with frame := some s.fb } := rfl

/-! ### resetBlock -/

@[simp] theorem resetBlock_cycleCounter (s : State) : (resetBlock s).cycleCounter = 0#20 := rfl
@[simp] theorem resetBlock_mode (s : State) : (resetBlock s).mode = .draw := rfl
@[simp] theorem resetBlock_scanlineIndex (s : State) : (resetBlock s).scanlineIndex = 0#9 := rfl
@[simp] theorem resetBlock_cfg (s : State) : (resetBlock s).cfg = ⟨0#32, Vector.replicate 4 resetLayer⟩ := rfl
@[simp] theorem resetBlock_diag (s : State) : (resetBlock s).diag = 0b00#2 := rfl
@[simp] theorem resetBlock_raw (s : State) : (resetBlock s).raw = Vector.replicate 256 0x0000#16 := rfl
@[simp] theorem resetBlock_derived (s : State) : (resetBlock s).derived = Vector.replicate 256 0xFF000000#32 := rfl
@[simp] theorem resetBlock_dirty (s : State) : (resetBlock s).dirty = clearDirty := rfl
@[simp] theorem resetBlock_lineA (s : State) : (resetBlock s).lineA = s.lineA := rfl
@[simp] theorem resetBlock_lineB (s : State) : (resetBlock s).lineB = s.lineB := rfl
@[simp] theorem resetBlock_fb (s : State) : (resetBlock s).fb = clearedFrameBuffer := rfl
@[simp] theorem resetBlock_thresholds (s : State) : (resetBlock s).thresholds = s.thresholds := rfl
@[simp] theorem resetBlock_vram (s : State) : (resetBlock s).vram = s.vram := rfl
@[simp] theorem resetBlock_sinkOk (s : State) : (resetBlock s).sinkOk = s.sinkOk := rfl
@[simp] theorem resetBlock_stream (s : State) : (resetBlock s).stream = s.stream := rfl
@[simp] theorem resetBlock_out (s : State) : (resetBlock s).out = s.out := rfl

/-! ### acceptItem -/

@[simp] theorem acceptItem_cycleCounter (c : StreamItem) (rest : List StreamItem) (s : State) : (acceptItem c rest s).cycleCounter = s.cycleCounter := rfl
@[simp] theorem acceptItem_mode (c : StreamItem) (rest : List StreamItem) (s : State) : (acceptItem c rest s).mode = s.mode := rfl
@[simp] theorem acceptItem_scanlineIndex (c : StreamItem) (rest : List StreamItem) (s : State) : (acceptItem c rest s).scanlineIndex = s.scanlineIndex := rfl
@[simp] theorem acceptItem_cfg (c : StreamItem) (rest : List StreamItem) (s : State) : (acceptItem c rest s).cfg = s.cfg := rfl
@[simp] theorem acceptItem_diag (c : StreamItem) (rest : List StreamItem) (s : State) : (acceptItem c rest s).diag = s.diag := rfl
@[simp] theorem acceptItem_raw (c : StreamItem) (rest : List StreamItem) (s : State) : (acceptItem c rest s).raw = s.raw := rfl
@[simp] theorem acceptItem_derived (c : StreamItem) (rest : List StreamItem) (s : State) : (acceptItem c rest s).derived = s.derived := rfl
@[simp] theorem acceptItem_dirty (c : StreamItem) (rest : List StreamItem) (s : State) : (acceptItem c rest s).dirty = s.dirty := rfl
@[simp] theorem acceptItem_lineA (c : StreamItem) (rest : List StreamItem) (s : State) : (acceptItem c rest s).lineA = s.lineA := rfl
@[simp] theorem acceptItem_lineB (c : StreamItem) (rest : List StreamItem) (s : State) : (acceptItem c rest s).lineB = s.lineB := rfl
@[simp] theorem acceptItem_fb (c : StreamItem) (rest : List StreamItem) (s : State) : (acceptItem c rest s).fb = s.fb := rfl
@[simp] theorem acceptItem_thresholds (c : StreamItem) (rest : List StreamItem) (s : State) : (acceptItem c rest s).thresholds = s.thresholds := rfl
@[simp] theorem acceptItem_vram (c : StreamItem) (rest : List StreamItem) (s : State) : (acceptItem c rest s).vram = memWrites s.vram c.vramWrites := rfl
@[simp] theorem acceptItem_sinkOk (c : StreamItem) (rest : List StreamItem) (s : State) : (acceptItem c rest s).sinkOk = c.sinkOk := rfl
@[simp] theorem acceptItem_stream (c : StreamItem) (rest : List StreamItem) (s : State) : (acceptItem c rest s).stream = rest := rfl
@[simp] theorem acceptItem_out (c : StreamItem) (rest : List StreamItem) (s : State) : (acceptItem c rest s).out = s.out := rfl

/-! ### tick -/

@[simp] theorem tick_cycleCounter (s : State) : (tick s).cycleCounter = nextCounter s.thresholds s.cycleCounter := rfl
@[simp] theorem tick_mode (s : State) : (tick s).mode = s.mode := rfl
@[simp] theorem tick_scanlineIndex (s : State) : (tick s).scanlineIndex = nextScanline s.thresholds (nextCounter s.thresholds s.cycleCounter) s.scanlineIndex := rfl
@[simp] theorem tick_cfg (s : State) : (tick s).cfg = s.cfg := rfl
@[simp] theorem tick_diag (s : State) : (tick s).diag = s.diag := rfl
@[simp] theorem tick_raw (s : State) : (tick s).raw = s.raw := rfl
@[simp] theorem tick_derived (s : State) : (tick s).derived = s.derived := rfl
@[simp] theorem tick_dirty (s : State) : (tick s).dirty = s.dirty := rfl
@[simp] theorem tick_lineA (s : State) : (tick s).lineA = s.lineA := rfl
@[simp] theorem tick_lineB (s : State) : (tick s).lineB = s.lineB := rfl
@[simp] theorem tick_fb (s : State) : (tick s).fb = s.fb := rfl
@[simp] theorem tick_thresholds (s : State) : (tick s).thresholds = s.thresholds := rfl
@[simp] theorem tick_vram (s : State) : (tick s).vram = s.vram := rfl
@[simp] theorem tick_sinkOk (s : State) : (tick s).sinkOk = s.sinkOk := rfl
@[simp] theorem tick_stream (s : State) : (tick s).stream = s.stream := rfl
@[simp] theorem tick_out (s : State) : (tick s).out = s.out := rfl

end Sys2Proof.Machine
end

