-- ==== Sys2Proof/Laws/Blocks.lean ====
section
/-!
SUPPORT. Reading one entry after a shared operation: the configuration registers, the palette arrays and the frame buffer.
-/

namespace Sys2Proof.Machine

/-! ### Configuration registers (`44_control_ops.md` R191) -/

theorem cfgRead_cfgWrite_same (cfg : CfgRegs) (r : CfgReg) (v : BitVec 32) :
    cfgRead (cfgWrite cfg r v) r = v &&& writeMask r := by
  cases r <;> simp [cfgRead, cfgWrite, setLayer]

theorem cfgRead_cfgWrite_other (cfg : CfgRegs) {r r' : CfgReg} (v : BitVec 32) (h : r' ≠ r) :
    cfgRead (cfgWrite cfg r v) r' = cfgRead cfg r' := by
  cases r <;> cases r' <;> simp only [cfgRead, cfgWrite, setLayer, Fin.getElem_fin, Vector.getElem_set] <;>
    (try split) <;> simp_all [Fin.ext_iff]

/-! ### Palette arrays (`41_palette.md` R121, R122) -/

@[simp] theorem getElem_clearDirty (j : Nat) (h : j < 256) : clearDirty[j] = false := by simp [clearDirty]

theorem getElem_setDirty (d : Vector Bool 256) (i : BitVec 8) (j : Nat) (h : j < 256) :
    (setDirty d i)[j] = if i.toNat = j then true else d[j] := by
  simp [setDirty, Vector.getElem_set]

theorem getElem_refreshedDerived (raw : Vector RawColour 256) (derived : Vector Colour 256) (dirty : Vector Bool 256)
    (j : Nat) (h : j < 256) :
    (refreshedDerived raw derived dirty)[j] = if dirty[j] then expand raw[j] else derived[j] := by
  simp [refreshedDerived]

/-! ### Frame buffer (`20_memory.md` R44, `43_framebuffer.md` R170, R171) -/

theorem entry_fbWriteLine (fb : FrameBuffer) (y : Line) (a b : Row) (k : Fin 98304) :
    (fbWriteLine fb y a b).entry k =
      if k.val < 49152 then
        (if k.val / 256 = y.toNat then a[k.val % 256]'(by omega) else fb.entry k)
      else
        (if (k.val - 49152) / 256 = y.toNat then b[(k.val - 49152) % 256]'(by omega) else fb.entry k) := by
  unfold FrameBuffer.entry fbWriteLine
  split
  · rw [Vector.getElem_setIfInBounds]
    by_cases h : y.toNat = k.val / 256
    · simp [h]
    · simp [h, Ne.symm h]
  · rw [Vector.getElem_setIfInBounds]
    by_cases h : y.toNat = (k.val - 49152) / 256
    · simp [h]
    · simp [h, Ne.symm h]

end Sys2Proof.Machine
end

