-- ==== Sys2Proof/Laws/Decode.lean ====
section
/-!
SUPPORT. Laws of the command word: its fields as arithmetic on the word's number, and the decoder's cases.
-/

namespace Sys2Proof

/-! ### Fields as arithmetic -/

theorem toNat_append_eq_add {m n : Nat} (x : BitVec m) (y : BitVec n) :
    (x ++ y).toNat = x.toNat * 2 ^ n + y.toNat := by
  rw [BitVec.toNat_append, ← Nat.shiftLeft_add_eq_or_of_lt y.isLt, Nat.shiftLeft_eq]

theorem toNat_extract {n : Nat} (w : BitVec n) (lo len : Nat) :
    (w.extractLsb' lo len).toNat = w.toNat / 2 ^ lo % 2 ^ len := by
  rw [BitVec.extractLsb'_toNat, Nat.shiftRight_eq_div_pow]

theorem op_toNat (w : CommandWord) : w.op.toNat = w.toNat / 2 ^ 60 := by
  rw [CommandWord.op, toNat_extract]; have := w.isLt; omega

theorem a_toNat (w : CommandWord) : w.a.toNat = w.toNat / 2 ^ 48 % 2 ^ 12 := toNat_extract ..

theorem z_toNat (w : CommandWord) : w.z.toNat = w.toNat / 2 ^ 32 % 2 ^ 16 := toNat_extract ..

theorem d_toNat (w : CommandWord) : w.d.toNat = w.toNat % 2 ^ 32 := by
  rw [CommandWord.d, toNat_extract]; omega

theorem commandWord_toNat (op : BitVec 4) (a : BitVec 12) (d : BitVec 32) :
    (commandWord op a d).toNat = op.toNat * 2 ^ 60 + a.toNat * 2 ^ 48 + d.toNat := by
  have h : (commandWord op a d).toNat = (op ++ a ++ 0#16 ++ d).toNat := rfl
  rw [h]
  simp only [toNat_append_eq_add, BitVec.toNat_ofNat]
  omega

/-! ### The fields of an encoded word -/

@[simp] theorem op_commandWord (op : BitVec 4) (a : BitVec 12) (d : BitVec 32) :
    (commandWord op a d).op = op := by
  apply BitVec.eq_of_toNat_eq
  rw [op_toNat, commandWord_toNat]; have := op.isLt; have := a.isLt; have := d.isLt; omega

@[simp] theorem a_commandWord (op : BitVec 4) (a : BitVec 12) (d : BitVec 32) :
    (commandWord op a d).a = a := by
  apply BitVec.eq_of_toNat_eq
  rw [a_toNat, commandWord_toNat]; have := op.isLt; have := a.isLt; have := d.isLt; omega

@[simp] theorem z_commandWord (op : BitVec 4) (a : BitVec 12) (d : BitVec 32) :
    (commandWord op a d).z = 0#16 := by
  apply BitVec.eq_of_toNat_eq
  rw [z_toNat, commandWord_toNat]; have := op.isLt; have := a.isLt; have := d.isLt
  simp only [BitVec.toNat_ofNat]; omega

@[simp] theorem d_commandWord (op : BitVec 4) (a : BitVec 12) (d : BitVec 32) :
    (commandWord op a d).d = d := by
  apply BitVec.eq_of_toNat_eq
  rw [d_toNat, commandWord_toNat]; have := op.isLt; have := a.isLt; have := d.isLt; omega

/-- A word is its four fields. -/
theorem eq_commandWord (w : CommandWord) (hz : w.z = 0#16) : commandWord w.op w.a w.d = w := by
  apply BitVec.eq_of_toNat_eq
  have h0 : w.z.toNat = 0 := by rw [hz]; rfl
  rw [z_toNat] at h0
  rw [commandWord_toNat, op_toNat, a_toNat, d_toNat]
  have := w.isLt; omega

/-! ### Register indices -/

theorem cfgRegAt_index (r : CfgReg) : cfgRegAt r.index = some r := by
  cases r with
  | dispctl => decide
  | bgctl l => revert l; decide
  | bgtilebase l => revert l; decide
  | bgmapbase l => revert l; decide
  | bgscrollx l => revert l; decide
  | bgscrolly l => revert l; decide

theorem index_of_cfgRegAt {a : BitVec 12} {r : CfgReg} (h : cfgRegAt a = some r) : r.index = a := by
  simpa using List.find?_some h

/-- The indices that name a register are the 21 of R18. -/
theorem cfgRegAt_isSome_iff (a : BitVec 12) :
    (cfgRegAt a).isSome ↔ a.toNat = 0 ∨ ∃ l k, l < 4 ∧ k < 5 ∧ a.toNat = 0x010 + 0x10 * l + k := by
  constructor
  · intro h
    obtain ⟨r, hr⟩ := Option.isSome_iff_exists.mp h
    rw [← index_of_cfgRegAt hr]
    clear hr h
    cases r with
    | dispctl => exact .inl rfl
    | bgctl l => exact .inr ⟨l, 0, l.isLt, by omega, by revert l; decide⟩
    | bgtilebase l => exact .inr ⟨l, 1, l.isLt, by omega, by revert l; decide⟩
    | bgmapbase l => exact .inr ⟨l, 2, l.isLt, by omega, by revert l; decide⟩
    | bgscrollx l => exact .inr ⟨l, 3, l.isLt, by omega, by revert l; decide⟩
    | bgscrolly l => exact .inr ⟨l, 4, l.isLt, by omega, by revert l; decide⟩
  · rintro (h | ⟨l, k, hl, hk, h⟩)
    · rw [show a = CfgReg.dispctl.index from BitVec.eq_of_toNat_eq h, cfgRegAt_index]; rfl
    · have e : a = layerRegIndex k ⟨l, hl⟩ := BitVec.eq_of_toNat_eq (by
        rw [h, layerRegIndex, BitVec.toNat_ofNat]; simp only; omega)
      rw [e]
      match k, hk with
      | 0, _ => exact Option.isSome_iff_exists.mpr ⟨_, cfgRegAt_index (.bgctl ⟨l, hl⟩)⟩
      | 1, _ => exact Option.isSome_iff_exists.mpr ⟨_, cfgRegAt_index (.bgtilebase ⟨l, hl⟩)⟩
      | 2, _ => exact Option.isSome_iff_exists.mpr ⟨_, cfgRegAt_index (.bgmapbase ⟨l, hl⟩)⟩
      | 3, _ => exact Option.isSome_iff_exists.mpr ⟨_, cfgRegAt_index (.bgscrollx ⟨l, hl⟩)⟩
      | 4, _ => exact Option.isSome_iff_exists.mpr ⟨_, cfgRegAt_index (.bgscrolly ⟨l, hl⟩)⟩

/-! ### What each part of the decoder accepts -/

theorem decodeBare_ok_iff (i : Instr) (w : CommandWord) (j : Instr) :
    decodeBare i w = .ok j ↔ w.a = 0#12 ∧ w.d = 0#32 ∧ j = i := by
  unfold decodeBare
  split <;> simp_all [eq_comm]

theorem decodeLine_ok_iff (mk : Line → Instr) (limit : Nat) (w : CommandWord) (j : Instr) :
    decodeLine mk limit w = .ok j ↔
      w.a.extractLsb' 9 3 = 0#3 ∧ w.d = 0#32 ∧ (w.a.extractLsb' 0 9).toNat ≤ limit ∧ j = mk (w.a.extractLsb' 0 9) := by
  unfold decodeLine
  simp only
  split
  · split <;> simp_all [eq_comm]
  · simp_all

theorem decodePalwr_ok_iff (w : CommandWord) (j : Instr) :
    decodePalwr w = .ok j ↔
      w.a.extractLsb' 8 4 = 0#4 ∧ w.d.extractLsb' 16 16 = 0#16 ∧
        j = .palwr (w.a.extractLsb' 0 8) (w.d.extractLsb' 0 16) := by
  unfold decodePalwr
  split <;> simp_all [eq_comm]

theorem decodeCfgwr_ok_iff (w : CommandWord) (j : Instr) :
    decodeCfgwr w = .ok j ↔ ∃ r, cfgRegAt w.a = some r ∧ j = .cfgwr r w.d := by
  unfold decodeCfgwr
  cases cfgRegAt w.a <;> simp [eq_comm]

theorem decode_ok_iff (w : CommandWord) (i : Instr) :
    decode w = .ok i ↔ w.z = 0#16 ∧ decodeOp w = .ok i := by
  unfold decode
  split <;> simp_all

end Sys2Proof
end

