-- ==== Sys2Proof/Laws/Memory.lean ====
section
/-!
SUPPORT. The tile/map memory: every operation keeps the canonical form.
-/

namespace Sys2Proof.Machine

theorem wf_nil : Memory.wf [] := by simp [Memory.wf]

theorem wf_tail {c : Host.Cell} {m : Memory} (h : Memory.wf (c :: m)) : Memory.wf m :=
  ⟨(List.pairwise_cons.mp h.1).2, fun d hd => h.2 d (List.mem_cons_of_mem _ hd)⟩

theorem wf_cons_iff (c : Host.Cell) (m : Memory) :
    Memory.wf (c :: m) ↔ (∀ d ∈ m, c.1 < d.1) ∧ c.1 < 2 ^ 32 ∧ c.2 ≠ unlistedByte ∧ Memory.wf m := by
  simp only [Memory.wf, List.pairwise_cons, List.mem_cons, forall_eq_or_imp]
  tauto

/-- Every entry after a write is the written one or was there before. -/
theorem mem_memWrite {m : Memory} {a : Addr} {v : Byte} {d : Host.Cell} (h : d ∈ memWrite m a v) :
    d = (a.toNat, v) ∧ v ≠ unlistedByte ∨ d ∈ m := by
  induction m with
  | nil =>
    unfold memWrite at h
    split at h <;> simp_all
  | cons c m ih =>
    unfold memWrite at h
    split at h
    · split at h <;> simp_all
    · split at h
      · split at h <;> simp_all
        rcases h with h | h <;> simp [h]
      · rcases List.mem_cons.mp h with rfl | h
        · exact .inr List.mem_cons_self
        · exact (ih h).imp_right (List.mem_cons_of_mem _)

/-- A write keeps the canonical form. -/
theorem memWrite_wf {m : Memory} (a : Addr) (v : Byte) (h : Memory.wf m) : Memory.wf (memWrite m a v) := by
  induction m with
  | nil =>
    unfold memWrite
    split
    · exact wf_nil
    · exact (wf_cons_iff _ _).mpr ⟨by simp, a.isLt, ‹_›, wf_nil⟩
  | cons c m ih =>
    obtain ⟨hlt, hb, hv, hm⟩ := (wf_cons_iff _ _).mp h
    unfold memWrite
    split
    · next hac =>
      split
      · exact h
      · refine (wf_cons_iff _ _).mpr ⟨?_, a.isLt, ‹_›, h⟩
        intro d hd
        rcases List.mem_cons.mp hd with rfl | hd
        · exact hac
        · exact lt_trans hac (hlt d hd)
    · split
      · next hac =>
        split
        · exact hm
        · exact (wf_cons_iff _ _).mpr ⟨fun d hd => by have := hlt d hd; simp only; omega, a.isLt, ‹_›, hm⟩
      · next h1 h2 =>
        refine (wf_cons_iff _ _).mpr ⟨?_, hb, hv, ih hm⟩
        intro d hd
        rcases mem_memWrite hd with ⟨rfl, -⟩ | hd
        · simp only; omega
        · exact hlt d hd

/-- The collaborator's changes keep the canonical form. -/
theorem memWrites_wf {m : Memory} (ws : List (Addr × Byte)) (h : Memory.wf m) : Memory.wf (memWrites m ws) := by
  induction ws generalizing m with
  | nil => exact h
  | cons w ws ih => exact ih (memWrite_wf w.1 w.2 h)

end Sys2Proof.Machine
end

