-- ==== Sys2Proof/Laws/Ops.lean ====
section
/-!
SUPPORT. What the shared operations can do: which fields each leaves alone, the two outcomes of RENDER and PRESENT, and the
cases of ADVANCE. A proof about a command cites these and does not unfold the operation.
-/

namespace Sys2Proof.Machine

/-! ### RENDER -/

theorem render_of_none {s : State} (y : Line) (h : displayAlgorithm (displayMode s.cfg) = none) :
    render y s = diag .unsupportedMode s := by
  simp only [render, h]

theorem render_of_some {s : State} {alg : DisplayAlgorithm} (y : Line)
    (h : displayAlgorithm (displayMode s.cfg) = some alg) :
    render y s =
      { s with
        lineA := tabulate 256 (composeA alg s.cfg s.vram s.derived y)
        lineB := Config.rowB s.cfg (memByte s.vram) s.derived y } := by
  simp only [render, h]

@[simp] theorem render_cycleCounter (y : Line) (s : State) : (render y s).cycleCounter = s.cycleCounter := by
  unfold render; split <;> rfl

@[simp] theorem render_mode (y : Line) (s : State) : (render y s).mode = s.mode := by
  unfold render; split <;> rfl

@[simp] theorem render_scanlineIndex (y : Line) (s : State) : (render y s).scanlineIndex = s.scanlineIndex := by
  unfold render; split <;> rfl

@[simp] theorem render_cfg (y : Line) (s : State) : (render y s).cfg = s.cfg := by
  unfold render; split <;> rfl

@[simp] theorem render_raw (y : Line) (s : State) : (render y s).raw = s.raw := by
  unfold render; split <;> rfl

@[simp] theorem render_derived (y : Line) (s : State) : (render y s).derived = s.derived := by
  unfold render; split <;> rfl

@[simp] theorem render_dirty (y : Line) (s : State) : (render y s).dirty = s.dirty := by
  unfold render; split <;> rfl

@[simp] theorem render_fb (y : Line) (s : State) : (render y s).fb = s.fb := by
  unfold render; split <;> rfl

@[simp] theorem render_thresholds (y : Line) (s : State) : (render y s).thresholds = s.thresholds := by
  unfold render; split <;> rfl

@[simp] theorem render_vram (y : Line) (s : State) : (render y s).vram = s.vram := by
  unfold render; split <;> rfl

@[simp] theorem render_sinkOk (y : Line) (s : State) : (render y s).sinkOk = s.sinkOk := by
  unfold render; split <;> rfl

@[simp] theorem render_stream (y : Line) (s : State) : (render y s).stream = s.stream := by
  unfold render; split <;> rfl

/-- RENDER touches the output record by its diagnostic only. -/
theorem render_out (y : Line) (s : State) :
    (render y s).out = s.out ∨ (render y s).out = { s.out with diagPulse := raiseBit s.out.diagPulse .unsupportedMode } := by
  unfold render; split
  · exact .inr rfl
  · exact .inl rfl

@[simp] theorem render_out_event (y : Line) (s : State) : (render y s).out.event = s.out.event := by
  unfold render; split <;> rfl

@[simp] theorem render_out_frame (y : Line) (s : State) : (render y s).out.frame = s.out.frame := by
  unfold render; split <;> rfl

/-! ### PRESENT -/

theorem present_of_ok {s : State} (h : s.sinkOk = true) : present s = handOver s := if_pos h

theorem present_of_fail {s : State} (h : s.sinkOk = false) : present s = diag .presentFail (handOver s) := by
  simp [present, h]

@[simp] theorem present_cycleCounter (s : State) : (present s).cycleCounter = s.cycleCounter := by
  unfold present; split <;> rfl

@[simp] theorem present_mode (s : State) : (present s).mode = s.mode := by
  unfold present; split <;> rfl

@[simp] theorem present_scanlineIndex (s : State) : (present s).scanlineIndex = s.scanlineIndex := by
  unfold present; split <;> rfl

@[simp] theorem present_cfg (s : State) : (present s).cfg = s.cfg := by
  unfold present; split <;> rfl

@[simp] theorem present_raw (s : State) : (present s).raw = s.raw := by
  unfold present; split <;> rfl

@[simp] theorem present_derived (s : State) : (present s).derived = s.derived := by
  unfold present; split <;> rfl

@[simp] theorem present_dirty (s : State) : (present s).dirty = s.dirty := by
  unfold present; split <;> rfl

@[simp] theorem present_lineA (s : State) : (present s).lineA = s.lineA := by
  unfold present; split <;> rfl

@[simp] theorem present_lineB (s : State) : (present s).lineB = s.lineB := by
  unfold present; split <;> rfl

@[simp] theorem present_fb (s : State) : (present s).fb = s.fb := by
  unfold present; split <;> rfl

@[simp] theorem present_thresholds (s : State) : (present s).thresholds = s.thresholds := by
  unfold present; split <;> rfl

@[simp] theorem present_vram (s : State) : (present s).vram = s.vram := by
  unfold present; split <;> rfl

@[simp] theorem present_sinkOk (s : State) : (present s).sinkOk = s.sinkOk := by
  unfold present; split <;> rfl

@[simp] theorem present_stream (s : State) : (present s).stream = s.stream := by
  unfold present; split <;> rfl

@[simp] theorem present_out_event (s : State) : (present s).out.event = s.out.event := by
  unfold present; split <;> rfl

@[simp] theorem present_out_frame (s : State) : (present s).out.frame = some s.fb := by
  unfold present; split <;> rfl

/-- PRESENT adds the frame to the output record, and on the sink's failure its diagnostic. -/
theorem present_out_diagPulse (s : State) :
    (present s).out.diagPulse = if s.sinkOk then s.out.diagPulse else raiseBit s.out.diagPulse .presentFail := by
  unfold present; split <;> rfl

/-! ### The services -/

theorem serviceHBlank_eq (y : Line) (s : State) :
    serviceHBlank y s =
      if forcedBlank s.cfg then lineFill y (render y (refresh s)) else lineCopy y (render y (refresh s)) := by
  simp [serviceHBlank]

@[simp] theorem serviceHBlank_cycleCounter (y : Line) (s : State) : (serviceHBlank y s).cycleCounter = s.cycleCounter := by
  rw [serviceHBlank_eq]; split <;> simp

@[simp] theorem serviceHBlank_mode (y : Line) (s : State) : (serviceHBlank y s).mode = s.mode := by
  rw [serviceHBlank_eq]; split <;> simp

@[simp] theorem serviceHBlank_scanlineIndex (y : Line) (s : State) : (serviceHBlank y s).scanlineIndex = s.scanlineIndex := by
  rw [serviceHBlank_eq]; split <;> simp

@[simp] theorem serviceHBlank_cfg (y : Line) (s : State) : (serviceHBlank y s).cfg = s.cfg := by
  rw [serviceHBlank_eq]; split <;> simp

@[simp] theorem serviceHBlank_raw (y : Line) (s : State) : (serviceHBlank y s).raw = s.raw := by
  rw [serviceHBlank_eq]; split <;> simp

@[simp] theorem serviceHBlank_thresholds (y : Line) (s : State) : (serviceHBlank y s).thresholds = s.thresholds := by
  rw [serviceHBlank_eq]; split <;> simp

@[simp] theorem serviceHBlank_vram (y : Line) (s : State) : (serviceHBlank y s).vram = s.vram := by
  rw [serviceHBlank_eq]; split <;> simp

@[simp] theorem serviceHBlank_sinkOk (y : Line) (s : State) : (serviceHBlank y s).sinkOk = s.sinkOk := by
  rw [serviceHBlank_eq]; split <;> simp

@[simp] theorem serviceHBlank_stream (y : Line) (s : State) : (serviceHBlank y s).stream = s.stream := by
  rw [serviceHBlank_eq]; split <;> simp

@[simp] theorem serviceHBlank_derived (y : Line) (s : State) :
    (serviceHBlank y s).derived = refreshedDerived s.raw s.derived s.dirty := by
  rw [serviceHBlank_eq]; split <;> simp

@[simp] theorem serviceHBlank_dirty (y : Line) (s : State) : (serviceHBlank y s).dirty = clearDirty := by
  rw [serviceHBlank_eq]; split <;> simp

@[simp] theorem serviceHBlank_out_event (y : Line) (s : State) : (serviceHBlank y s).out.event = s.out.event := by
  rw [serviceHBlank_eq]; split <;> simp

@[simp] theorem serviceHBlank_out_frame (y : Line) (s : State) : (serviceHBlank y s).out.frame = s.out.frame := by
  rw [serviceHBlank_eq]; split <;> simp

@[simp] theorem service_cycleCounter (e : PhaseEvent) (s : State) : (service e s).cycleCounter = s.cycleCounter := by
  cases e <;> simp [service]

@[simp] theorem service_mode (e : PhaseEvent) (s : State) : (service e s).mode = s.mode := by
  cases e <;> simp [service]

@[simp] theorem service_scanlineIndex (e : PhaseEvent) (s : State) : (service e s).scanlineIndex = s.scanlineIndex := by
  cases e <;> simp [service]

@[simp] theorem service_cfg (e : PhaseEvent) (s : State) : (service e s).cfg = s.cfg := by
  cases e <;> simp [service]

@[simp] theorem service_raw (e : PhaseEvent) (s : State) : (service e s).raw = s.raw := by
  cases e <;> simp [service]

@[simp] theorem service_thresholds (e : PhaseEvent) (s : State) : (service e s).thresholds = s.thresholds := by
  cases e <;> simp [service]

@[simp] theorem service_vram (e : PhaseEvent) (s : State) : (service e s).vram = s.vram := by
  cases e <;> simp [service]

@[simp] theorem service_sinkOk (e : PhaseEvent) (s : State) : (service e s).sinkOk = s.sinkOk := by
  cases e <;> simp [service]

@[simp] theorem service_stream (e : PhaseEvent) (s : State) : (service e s).stream = s.stream := by
  cases e <;> simp [service]

@[simp] theorem service_out_event (e : PhaseEvent) (s : State) : (service e s).out.event = s.out.event := by
  cases e <;> simp [service]

/-! ### ADVANCE -/

/-- The mode the new counter value classifies to. -/
def newMode (s : State) : Mode := classify s.thresholds (nextCounter s.thresholds s.cycleCounter).toNat

theorem advance_of_same {s : State} (h : newMode s = s.mode) : advance s = tick s := by
  simp only [advance, newMode] at *
  simp [h]

theorem advance_of_entry {s : State} (h : newMode s ≠ s.mode) : advance s = enterMode (newMode s) (tick s) := by
  simp only [advance, newMode] at *
  simp [h]

@[simp] theorem enterMode_cycleCounter (m : Mode) (s : State) : (enterMode m s).cycleCounter = s.cycleCounter := by
  simp [enterMode]

@[simp] theorem enterMode_scanlineIndex (m : Mode) (s : State) : (enterMode m s).scanlineIndex = s.scanlineIndex := by
  simp [enterMode]

@[simp] theorem enterMode_cfg (m : Mode) (s : State) : (enterMode m s).cfg = s.cfg := by
  simp [enterMode]

@[simp] theorem enterMode_raw (m : Mode) (s : State) : (enterMode m s).raw = s.raw := by
  simp [enterMode]

@[simp] theorem enterMode_thresholds (m : Mode) (s : State) : (enterMode m s).thresholds = s.thresholds := by
  simp [enterMode]

@[simp] theorem enterMode_vram (m : Mode) (s : State) : (enterMode m s).vram = s.vram := by
  simp [enterMode]

@[simp] theorem enterMode_sinkOk (m : Mode) (s : State) : (enterMode m s).sinkOk = s.sinkOk := by
  simp [enterMode]

@[simp] theorem enterMode_stream (m : Mode) (s : State) : (enterMode m s).stream = s.stream := by
  simp [enterMode]

@[simp] theorem enterMode_mode (m : Mode) (s : State) : (enterMode m s).mode = m := by simp [enterMode]

@[simp] theorem enterMode_out_event (m : Mode) (s : State) :
    (enterMode m s).out.event = some (enterEvent m s.scanlineIndex) := by
  simp [enterMode]

@[simp] theorem advance_cycleCounter (s : State) :
    (advance s).cycleCounter = nextCounter s.thresholds s.cycleCounter := by
  by_cases h : newMode s = s.mode
  · rw [advance_of_same h]; rfl
  · rw [advance_of_entry h]; simp

@[simp] theorem advance_scanlineIndex (s : State) :
    (advance s).scanlineIndex =
      nextScanline s.thresholds (nextCounter s.thresholds s.cycleCounter) s.scanlineIndex := by
  by_cases h : newMode s = s.mode
  · rw [advance_of_same h]; rfl
  · rw [advance_of_entry h]; simp

@[simp] theorem advance_mode (s : State) : (advance s).mode = newMode s := by
  by_cases h : newMode s = s.mode
  · rw [advance_of_same h, h]; rfl
  · rw [advance_of_entry h]; simp

theorem advance_out_event (s : State) :
    (advance s).out.event =
      if newMode s = s.mode then s.out.event
      else some (enterEvent (newMode s)
        (nextScanline s.thresholds (nextCounter s.thresholds s.cycleCounter) s.scanlineIndex)) := by
  by_cases h : newMode s = s.mode
  · rw [advance_of_same h, if_pos h]; rfl
  · rw [advance_of_entry h, if_neg h]; simp

@[simp] theorem advance_cfg (s : State) : (advance s).cfg = s.cfg := by
  by_cases h : newMode s = s.mode
  · rw [advance_of_same h]; rfl
  · rw [advance_of_entry h]; simp

@[simp] theorem advance_raw (s : State) : (advance s).raw = s.raw := by
  by_cases h : newMode s = s.mode
  · rw [advance_of_same h]; rfl
  · rw [advance_of_entry h]; simp

@[simp] theorem advance_thresholds (s : State) : (advance s).thresholds = s.thresholds := by
  by_cases h : newMode s = s.mode
  · rw [advance_of_same h]; rfl
  · rw [advance_of_entry h]; simp

@[simp] theorem advance_vram (s : State) : (advance s).vram = s.vram := by
  by_cases h : newMode s = s.mode
  · rw [advance_of_same h]; rfl
  · rw [advance_of_entry h]; simp

@[simp] theorem advance_sinkOk (s : State) : (advance s).sinkOk = s.sinkOk := by
  by_cases h : newMode s = s.mode
  · rw [advance_of_same h]; rfl
  · rw [advance_of_entry h]; simp

@[simp] theorem advance_stream (s : State) : (advance s).stream = s.stream := by
  by_cases h : newMode s = s.mode
  · rw [advance_of_same h]; rfl
  · rw [advance_of_entry h]; simp

/-! ### Commands: what `exec` answers when it answers a next state -/

theorem execRender_eq {y : Line} (h : y.toNat ≤ 262) (s : State) :
    execRender y s = .next (render y (beginCommand s)) := if_pos h

theorem execLinecopy_eq {y : Line} (h : y.toNat ≤ 191) (s : State) :
    execLinecopy y s = .next (lineCopy y (beginCommand s)) := if_pos h

theorem execLinefill_eq {y : Line} (h : y.toNat ≤ 191) (s : State) :
    execLinefill y s = .next (lineFill y (beginCommand s)) := if_pos h

/-- The next state of an operation that completes. -/
def effect (i : Instr) (s : State) : State :=
  match i with
  | .advance => advance (beginCommand s)
  | .reset => resetBlock (beginCommand s)
  | .palwr k v => paletteWrite k v (beginCommand s)
  | .cfgwr r v => { beginCommand s with cfg := cfgWrite s.cfg r v }
  | .refresh => refresh (beginCommand s)
  | .render y => render y (beginCommand s)
  | .linecopy y => lineCopy y (beginCommand s)
  | .linefill y => lineFill y (beginCommand s)
  | .present => present (beginCommand s)

/-- A command answers a next state exactly when it is well formed, and then its effect. -/
theorem exec_next_iff (i : Instr) (s t : State) : exec i s = .next t ↔ i.wellFormed = true ∧ t = effect i s := by
  cases i <;>
    simp [exec, effect, Instr.wellFormed, execAdvance, execReset, execPalwr, execCfgwr, execRefresh, execRender,
      execLinecopy, execLinefill, execPresent, eq_comm] <;>
    split <;> simp_all

end Sys2Proof.Machine
end

