-- ==== Sys2Proof/Laws/PerInstr.lean ====
section
/-!
SUPPORT. Statements made per instruction. `OpField`: the word of an instruction carries its operation code of
`30_encoding.md` R71 in bits 63:60 and has a zero `z` field.
-/

namespace Sys2Proof.Laws.OpField

open Sys2Proof

/-- The operation code and the must-be-zero field of an instruction's word. -/
def Statement (i : Instr) : Prop := (encode i).op = i.opcode ∧ (encode i).z = 0#16

theorem of_encode (i : Instr) : Statement i := ⟨op_commandWord .., z_commandWord ..⟩

theorem advance : Statement .advance := of_encode _
theorem reset : Statement .reset := of_encode _
theorem palwr (i : BitVec 8) (v : RawColour) : Statement (.palwr i v) := of_encode _
theorem cfgwr (r : CfgReg) (v : BitVec 32) : Statement (.cfgwr r v) := of_encode _
theorem refresh : Statement .refresh := of_encode _
theorem render (y : Line) : Statement (.render y) := of_encode _
theorem linecopy (y : Line) : Statement (.linecopy y) := of_encode _
theorem linefill (y : Line) : Statement (.linefill y) := of_encode _
theorem present : Statement .present := of_encode _

end Sys2Proof.Laws.OpField
end

