-- ==== Sys2Proof/Laws/Timing.lean ====
section
/-!
SUPPORT. Arithmetic of the Timing Driver: the counter, the scanline index and the classifier after one cycle.
-/

namespace Sys2Proof.Machine

theorem cycFrame_eq (p : Thresholds) : p.cycFrame = 263 * p.cycLine := rfl

theorem cycActive_eq (p : Thresholds) : p.cycActive = 192 * p.cycLine := rfl

theorem cycLine_pos (p : Thresholds) : 0 < p.cycLine := lt_trans p.draw_pos p.draw_lt_line

theorem cycFrame_pos (p : Thresholds) : 0 < p.cycFrame := by
  have := cycLine_pos p; rw [cycFrame_eq]; omega

/-- The counter after a cycle never overflows its 20 bits (`40_timing.md` R101, `44_control_ops.md` R194). -/
theorem nextCounter_toNat (p : Thresholds) (c : BitVec 20) (h : c.toNat < p.cycFrame) :
    (nextCounter p c).toNat = if c.toNat + 1 = p.cycFrame then 0 else c.toNat + 1 := by
  have hf := p.frame_fits
  rw [cycFrame_eq] at h
  have hadd : (c + 1#20).toNat = c.toNat + 1 := by
    rw [BitVec.toNat_add, BitVec.toNat_ofNat]; omega
  unfold nextCounter
  simp only [hadd]
  split
  · rfl
  · exact hadd

theorem nextCounter_mod (p : Thresholds) (c : BitVec 20) (h : c.toNat < p.cycFrame) :
    (nextCounter p c).toNat = (c.toNat + 1) % p.cycFrame := by
  rw [nextCounter_toNat p c h]
  split
  · next e => rw [e, Nat.mod_self]
  · rw [Nat.mod_eq_of_lt (by omega)]

theorem nextCounter_lt (p : Thresholds) (c : BitVec 20) (h : c.toNat < p.cycFrame) :
    (nextCounter p c).toNat < p.cycFrame := by
  rw [nextCounter_mod p c h]; exact Nat.mod_lt _ (cycFrame_pos p)

/-- The scanline index stays the counter's scanline period (`10_state.md` R14 (b)). -/
theorem nextScanline_toNat (p : Thresholds) (c : BitVec 20) (y : Line) (h : c.toNat < p.cycFrame)
    (hy : y.toNat = c.toNat / p.cycLine) :
    (nextScanline p (nextCounter p c) y).toNat = (nextCounter p c).toNat / p.cycLine := by
  have hp := cycLine_pos p
  have hlt : c.toNat / p.cycLine < 263 := (Nat.div_lt_iff_lt_mul hp).mpr (by rwa [cycFrame_eq] at h)
  rw [nextCounter_toNat p c h]
  unfold nextScanline
  rw [nextCounter_toNat p c h]
  split
  · next e =>
    rw [Nat.zero_mod, if_pos rfl, BitVec.toNat_ofNat, Nat.zero_div, hy]
    have : c.toNat / p.cycLine = 262 := by
      refine Nat.div_eq_of_lt_le ?_ ?_ <;> rw [cycFrame_eq] at e <;> omega
    omega
  · next e =>
    have hs := Nat.succ_div (a := c.toNat) (b := p.cycLine)
    simp only [Nat.dvd_iff_mod_eq_zero] at hs
    split
    · next d =>
      rw [if_pos d] at hs
      have : (c.toNat + 1) / p.cycLine < 263 := (Nat.div_lt_iff_lt_mul hp).mpr (by rw [cycFrame_eq] at h e; omega)
      rw [BitVec.toNat_ofNat, hs, hy]; omega
    · next d => rw [if_neg d] at hs; rw [hs, hy]; rfl

/-- The classifier on a counter value split into scanline period `q` and offset `r` (`40_timing.md` R100). -/
theorem classify_split (p : Thresholds) (q r : Nat) (hr : r < p.cycLine) :
    classify p (q * p.cycLine + r) = if q < 192 then (if r < p.cycDraw then .draw else .hblank) else .vblank := by
  have hq : q * p.cycLine + r < p.cycActive ↔ q < 192 := by
    rw [cycActive_eq, ← Nat.div_lt_iff_lt_mul (cycLine_pos p), Nat.mul_comm, Nat.mul_add_div (cycLine_pos p),
      Nat.div_eq_of_lt hr, Nat.add_zero]
  have hm : (q * p.cycLine + r) % p.cycLine = r := by
    rw [Nat.mul_comm, Nat.mul_add_mod, Nat.mod_eq_of_lt hr]
  unfold classify
  simp only [hq, hm]

/-- ADVANCE keeps the invariants of TimingState (`10_state.md` R14). -/
theorem advance_timingOk {s : State} (h : TimingOk s) : TimingOk (advance s) where
  counter_lt := by simpa using nextCounter_lt _ _ h.counter_lt
  line_eq := by simpa using nextScanline_toNat _ _ _ h.counter_lt h.line_eq
  mode_eq := by simp [newMode]

/-- The counter as scanline period `q` and offset `r`, and what one cycle makes of the counter, the line and the mode
(`40_timing.md` R100 to R102, R108). -/
theorem cycle_cases {s : State} (h : TimingOk s) :
    ∃ q r, r < s.thresholds.cycLine ∧ q < 263 ∧ s.cycleCounter.toNat = q * s.thresholds.cycLine + r ∧
      s.scanlineIndex.toNat = q ∧
      s.mode = (if q < 192 then (if r < s.thresholds.cycDraw then .draw else .hblank) else .vblank) ∧
      (nextCounter s.thresholds s.cycleCounter).toNat =
        (if r + 1 < s.thresholds.cycLine then q * s.thresholds.cycLine + (r + 1)
         else if q = 262 then 0 else (q + 1) * s.thresholds.cycLine) ∧
      (nextScanline s.thresholds (nextCounter s.thresholds s.cycleCounter) s.scanlineIndex).toNat =
        (if r + 1 < s.thresholds.cycLine then q else if q = 262 then 0 else q + 1) ∧
      newMode s =
        (if r + 1 < s.thresholds.cycLine then
          (if q < 192 then (if r + 1 < s.thresholds.cycDraw then .draw else .hblank) else .vblank)
         else if q < 191 ∨ q = 262 then .draw else .vblank) := by
  have hp := cycLine_pos s.thresholds
  have hd := Nat.div_add_mod s.cycleCounter.toNat s.thresholds.cycLine
  have hr := Nat.mod_lt s.cycleCounter.toNat hp
  rw [Nat.mul_comm] at hd
  generalize hq : s.cycleCounter.toNat / s.thresholds.cycLine = q at *
  generalize s.cycleCounter.toNat % s.thresholds.cycLine = r at *
  have hq3 : q < 263 := by rw [← hq]; exact (Nat.div_lt_iff_lt_mul hp).mpr h.counter_lt
  have hn : (nextCounter s.thresholds s.cycleCounter).toNat =
      (if r + 1 < s.thresholds.cycLine then q * s.thresholds.cycLine + (r + 1)
       else if q = 262 then 0 else (q + 1) * s.thresholds.cycLine) := by
    rw [nextCounter_toNat _ _ h.counter_lt, ← hd, cycFrame_eq]
    split
    · next e =>
      have : r + 1 = s.thresholds.cycLine ∧ q = 262 := by
        rcases Nat.lt_or_eq_of_le (show q ≤ 262 by omega) with g | g
        · have := Nat.mul_le_mul_right s.thresholds.cycLine (show q + 1 ≤ 262 by omega)
          rw [Nat.add_mul] at this; omega
        · subst g; omega
      rw [if_neg (by omega), if_pos this.2]
    · next e =>
      split
      · omega
      · split
        · next g => subst g; omega
        · rw [Nat.add_mul]; omega
  have hs := nextScanline_toNat _ _ _ h.counter_lt h.line_eq
  refine ⟨q, r, hr, hq3, hd.symm, by rw [h.line_eq, hq], ?_, hn, ?_, ?_⟩
  · rw [h.mode_eq, ← hd, classify_split _ _ _ hr]
  · rw [hs, hn]
    split
    · rw [Nat.mul_comm, Nat.mul_add_div hp, Nat.div_eq_of_lt ‹_›]; simp
    · split
      · simp
      · rw [Nat.mul_div_cancel _ hp]
  · rw [newMode, hn]
    split
    · rw [classify_split _ _ _ ‹_›]
    · have hz := fun k => classify_split s.thresholds k 0 hp
      simp only [Nat.add_zero, s.thresholds.draw_pos, if_true] at hz
      split
      · next g => rw [if_pos (Or.inr g)]; simpa using hz 0
      · rw [hz]; split <;> simp <;> omega

/-- Two counter values in split form are equal exactly when their parts are. -/
theorem split_eq_iff (p : Thresholds) {a b x z : Nat} (hx : x < p.cycLine) (hz : z < p.cycLine) :
    a * p.cycLine + x = b * p.cycLine + z ↔ a = b ∧ x = z := by
  constructor
  · intro e
    have e1 := congrArg (· / p.cycLine) e
    have e2 := congrArg (· % p.cycLine) e
    simp only [Nat.mul_comm _ p.cycLine, Nat.mul_add_div (cycLine_pos _), Nat.mul_add_mod, Nat.div_eq_of_lt hx,
      Nat.div_eq_of_lt hz, Nat.mod_eq_of_lt hx, Nat.mod_eq_of_lt hz] at e1 e2
    omega
  · rintro ⟨rfl, rfl⟩; rfl

end Sys2Proof.Machine
end

