-- ==== Sys2Proof/Machine/Assembler.lean ====
section
/-!
DEFINITION. The textual syntax of a command (`30_encoding.md` R86) and the pseudo-instructions (R87). A line of text is a
list of characters.
-/

namespace Sys2Proof.Machine

/-! ### Pseudo-instructions (R87) -/

/-- What one line of text can say: nothing, a command, or a pseudo-instruction. -/
inductive AsmLine where
  | blank
  | command (i : Instr)
  /-- `ADVANCE n`. -/
  | advanceN (n : Nat)
  /-- `LINE`. -/
  | line
  /-- `FRAME`. -/
  | frame
  /-- `HBLANKSVC y`. -/
  | hblankSvc (y : Line)
  deriving DecidableEq, Repr

/-- The commands a line stands for; `HBLANKSVC` is a macro over state and reads forcedBlank "at that moment", which no
command of the macro changes (R87). -/
def expandLine (s : State) (t : AsmLine) : List Instr :=
  match t with
  | .blank => []
  | .command i => [i]
  | .advanceN n => List.replicate n .advance
  | .line => List.replicate s.thresholds.cycLine .advance
  | .frame => List.replicate s.thresholds.cycFrame .advance
  | .hblankSvc y => [.refresh, .render y, if forcedBlank s.cfg then .linefill y else .linecopy y]

/-! ### Numbers and names (R86) -/

/-- The value of a hexadecimal digit. -/
def hexDigit (c : Char) : Option Nat :=
  if '0' ≤ c ∧ c ≤ '9' then some (c.toNat - 48)
  else if 'a' ≤ c ∧ c ≤ 'f' then some (c.toNat - 87)
  else if 'A' ≤ c ∧ c ≤ 'F' then some (c.toNat - 55)
  else none

/-- Digits in a base, continuing from `acc`. -/
def digits (base : Nat) (acc : Nat) (cs : List Char) : Option Nat :=
  match cs with
  | [] => some acc
  | c :: rest =>
    match hexDigit c with
    | some d => if d < base then digits base (acc * base + d) rest else none
    | none => none

/-- A number in decimal or `0x` hexadecimal. -/
def number (cs : List Char) : Option Nat :=
  match cs with
  | [] => none
  | '0' :: 'x' :: c :: rest => digits 16 0 (c :: rest)
  | c :: rest => digits 10 0 (c :: rest)

/-- The layer register with a name, the layer's digit apart. -/
def layerRegNamed (name : List Char) (l : Fin 4) : Option CfgReg :=
  if name = "BGCTL".toList then some (.bgctl l)
  else if name = "BGTILEBASE".toList then some (.bgtilebase l)
  else if name = "BGMAPBASE".toList then some (.bgmapbase l)
  else if name = "BGSCROLLX".toList then some (.bgscrollx l)
  else if name = "BGSCROLLY".toList then some (.bgscrolly l)
  else none

/-- A layer number as the last character of a register name. -/
def layerDigit (c : Char) : Option (Fin 4) :=
  match c with
  | '0' => some 0
  | '1' => some 1
  | '2' => some 2
  | '3' => some 3
  | _ => none

/-- A register by its name (R86) or by its index (R18). -/
def register (cs : List Char) : Option CfgReg :=
  match number cs with
  | some n => if n < 2 ^ 12 then cfgRegAt (BitVec.ofNat 12 n) else none
  | none =>
    if cs = "DISPCTL".toList then some .dispctl
    else
      match cs.reverse with
      | c :: name => (layerDigit c).bind (layerRegNamed name.reverse)
      | [] => none

/-- A number below a limit. -/
def numberBelow (limit : Nat) (cs : List Char) : Option Nat :=
  (number cs).filter fun n => decide (n < limit)

/-! ### Lines -/

/-- A line without its comment. -/
def stripComment (cs : List Char) : List Char := cs.takeWhile fun c => decide (c ≠ ';')

/-- Is the character white space inside a line? -/
def isBlank (c : Char) : Bool := decide (c = ' ') || decide (c = '\t')

/-- Text without white space at its two ends. -/
def trim (cs : List Char) : List Char := ((cs.dropWhile isBlank).reverse.dropWhile isBlank).reverse

/-- Text cut at its commas, the piece so far in reverse. -/
def splitCommas (piece : List Char) (cs : List Char) : List (List Char) :=
  match cs with
  | [] => [piece.reverse]
  | c :: rest => if c = ',' then piece.reverse :: splitCommas [] rest else splitCommas (c :: piece) rest

/-- The operands of a line, none when nothing follows the mnemonic. -/
def operands (cs : List Char) : List (List Char) :=
  let t := trim cs
  if t = [] then [] else (splitCommas [] t).map trim

/-- One line of text (R86, R87); none if it is no line of the syntax. -/
def parseLine (cs : List Char) : Option AsmLine :=
  let t := trim (stripComment cs)
  let word := t.takeWhile fun c => !isBlank c
  let args := operands (t.dropWhile fun c => !isBlank c)
  match args with
  | [] =>
    if word = [] then some .blank
    else if word = "ADVANCE".toList then some (.command .advance)
    else if word = "RESET".toList then some (.command .reset)
    else if word = "REFRESH".toList then some (.command .refresh)
    else if word = "PRESENT".toList then some (.command .present)
    else if word = "LINE".toList then some .line
    else if word = "FRAME".toList then some .frame
    else none
  | [p] =>
    if word = "ADVANCE".toList then (number p).map .advanceN
    else if word = "RENDER".toList then (numberBelow 263 p).map fun n => .command (.render (BitVec.ofNat 9 n))
    else if word = "LINECOPY".toList then (numberBelow 192 p).map fun n => .command (.linecopy (BitVec.ofNat 9 n))
    else if word = "LINEFILL".toList then (numberBelow 192 p).map fun n => .command (.linefill (BitVec.ofNat 9 n))
    else if word = "HBLANKSVC".toList then (numberBelow 192 p).map fun n => .hblankSvc (BitVec.ofNat 9 n)
    else none
  | [p, q] =>
    if word = "PALWR".toList then
      (numberBelow (2 ^ 8) p).bind fun i =>
        (numberBelow (2 ^ 16) q).map fun v => .command (.palwr (BitVec.ofNat 8 i) (BitVec.ofNat 16 v))
    else if word = "CFGWR".toList then
      (register p).bind fun r => (numberBelow (2 ^ 32) q).map fun v => .command (.cfgwr r (BitVec.ofNat 32 v))
    else none
  | _ => none

end Sys2Proof.Machine
end

