-- ==== Sys2Proof/Tests/Slice0.lean ====
section
/-!
SUPPORT. Tests, each expected value taken from the spec (the section of `95_test_vectors.md` or the rule is named), and for
every statement with hypotheses the states and operands that meet them.
-/

namespace Sys2Proof.Tests

open Sys2Proof
open Sys2Proof.Machine

/-! ### Helpers -/

/-- A value read off the next state of an outcome. -/
def after {α : Type} (o : Host.Outcome State Fault Refusal) (f : State → α) : Option α :=
  match o with
  | .next t => some (f t)
  | .fault _ => none
  | .refused _ => none

/-- Was the command refused as reserved, and why? -/
def refusedWhy (o : Host.Outcome State Fault Refusal) : Option Reserved :=
  match o with
  | .next _ => none
  | .fault _ => none
  | .refused (.reservedCommand why) => some why
  | .refused (.notModelled _) => none

/-- Why the decoder rejects a word. -/
def rejected (w : CommandWord) : Option Reserved :=
  match decode w with
  | .ok _ => none
  | .error why => some why

/-- Reset, with the timing driver at the counter value `c`. -/
def timingAt (p : Thresholds) (c : Nat) : State :=
  { State.reset with
    thresholds := p
    cycleCounter := BitVec.ofNat 20 c
    scanlineIndex := BitVec.ofNat 9 (c / p.cycLine)
    mode := classify p c }

/-- The default thresholds' state at `c`. -/
def stateAt (c : Nat) : State := timingAt Thresholds.default c

/-- A short admissible line: 3 cycles, 1 of Draw. -/
def shortLine : Thresholds := ⟨3, 1, by decide, by decide, by decide⟩

/-- Reset with a register file whose DISPCTL is `d` and whose layer 0 has the control word `b`. -/
def withControls (d b : BitVec 32) : State :=
  { State.reset with cfg := cfgWrite (cfgWrite State.reset.cfg .dispctl d) (.bgctl 0) b }

/-- Counter, mode and line of a state. -/
def timing (s : State) : Nat × Mode × Nat := (s.cycleCounter.toNat, s.mode, s.scanlineIndex.toNat)

theorem timingOk_timingAt (p : Thresholds) (c : Nat) (h : c < p.cycFrame) : TimingOk (timingAt p c) := by
  have hf := p.frame_fits
  have hc : c % 2 ^ 20 = c := Nat.mod_eq_of_lt (by rw [cycFrame_eq] at h; omega)
  have hl : c / p.cycLine < 263 := (Nat.div_lt_iff_lt_mul (cycLine_pos p)).mpr (by rwa [cycFrame_eq] at h)
  refine ⟨?_, ?_, ?_⟩ <;> simp only [timingAt, BitVec.toNat_ofNat, hc]
  · exact h
  · exact Nat.mod_eq_of_lt (lt_trans hl (by decide))

theorem timingOk_stateAt (c : Nat) (h : c < 560190) : TimingOk (stateAt c) := timingOk_timingAt _ c h

/-! ### WellFormed: each check refuses an ill-formed operand (R72) -/

theorem test_render_263_ill_formed : (Instr.render 263#9).wellFormed = false := by decide
theorem test_linecopy_192_ill_formed : (Instr.linecopy 192#9).wellFormed = false := by decide
theorem test_linefill_192_ill_formed : (Instr.linefill 192#9).wellFormed = false := by decide

/-! ### Words written out from the encoding rules (R71, R72, R88; sections 2.2 to 2.13) -/

theorem test_decode_advance : decode 0x1000000000000000#64 = .ok .advance := by decide
theorem test_decode_reset : decode 0x2000000000000000#64 = .ok .reset := by decide
theorem test_decode_palwr : decode 0x30FF0000000083E0#64 = .ok (.palwr 255#8 0x83E0#16) := by decide
theorem test_decode_palwr_max : decode 0x30FF00000000FFFF#64 = .ok (.palwr 255#8 0xFFFF#16) := by decide
theorem test_decode_cfgwr_dispctl : decode 0x4000000000000008#64 = .ok (.cfgwr .dispctl 0x8#32) := by decide
theorem test_decode_cfgwr_bgctl : decode 0x40400000000001FF#64 = .ok (.cfgwr (.bgctl 3) 0x1FF#32) := by decide
theorem test_decode_cfgwr_tilebase :
    decode 0x4011000000001000#64 = .ok (.cfgwr (.bgtilebase 0) 0x1000#32) := by decide
theorem test_decode_cfgwr_mapbase :
    decode 0x40320000FFFFFFFE#64 = .ok (.cfgwr (.bgmapbase 2) 0xFFFFFFFE#32) := by decide
theorem test_decode_cfgwr_scrollx :
    decode 0x402300000001FFFF#64 = .ok (.cfgwr (.bgscrollx 1) 0x1FFFF#32) := by decide
theorem test_decode_cfgwr_scrolly :
    decode 0x40440000000000C8#64 = .ok (.cfgwr (.bgscrolly 3) 200#32) := by decide
theorem test_decode_refresh : decode 0x5000000000000000#64 = .ok .refresh := by decide
theorem test_decode_render : decode 0x6106000000000000#64 = .ok (.render 262#9) := by decide
theorem test_decode_linecopy : decode 0x70BF000000000000#64 = .ok (.linecopy 191#9) := by decide
theorem test_decode_linefill : decode 0x80BF000000000000#64 = .ok (.linefill 191#9) := by decide
theorem test_decode_present : decode 0x9000000000000000#64 = .ok .present := by decide

/-- The refused words of section 2.13. -/
theorem test_reserved_words :
    [0x0000000000000000#64, 0xA000000000000000#64, 0xF000000000000000#64, 0x1000000000000001#64, 0x1001000000000000#64,
      0x1000000100000000#64, 0x3100000000000000#64, 0x3000000000010000#64, 0x4000000100000000#64, 0x4001000000000000#64,
      0x6107000000000000#64, 0x6200000000000000#64, 0x70C0000000000000#64, 0x80C0000000000000#64,
      0x9000000000000001#64].map rejected =
    [some .reservedOp, some .reservedOp, some .reservedOp, some .mustBeZero, some .mustBeZero,
      some .mustBeZero, some .mustBeZero, some .mustBeZero, some .mustBeZero, some .undefinedRegister,
      some .lineOutOfRange, some .mustBeZero, some .lineOutOfRange, some .lineOutOfRange, some .mustBeZero] := by
  decide

/-- The undefined register indices of section 2.6. -/
theorem test_undefined_registers :
    [0x4001000000000000#64, 0x4015000000000000#64, 0x4050000000000001#64].map rejected =
      [some .undefinedRegister, some .undefinedRegister, some .undefinedRegister] := by decide

/-- A word whose operation field names each row of the opcode table, operands zero. -/
theorem test_table_words :
    [1, 2, 3, 4, 5, 6, 7, 8, 9].map (fun n => decodeTableWord 64 (n * 2 ^ 60)) =
      [some .advance, some .reset, some (.palwr 0#8 0#16), some (.cfgwr .dispctl 0#32), some .refresh,
        some (.render 0#9), some (.linecopy 0#9), some (.linefill 0#9), some .present] := by decide

/-- A word placed on the stream of the machine after reset is executed by the very next step. -/
theorem test_withFetchWord :
    step (State.reset.withFetchWord 64 0x4000000000000008) =
      exec (.cfgwr .dispctl 0x8#32) { State.reset with stream := [] } := rfl

/-- A reserved word on the stream is refused. -/
theorem test_step_refuses_reserved :
    refusedWhy (step (State.reset.withFetchWord 64 0)) = some .reservedOp := by decide +kernel

/-! ### ADVANCE (sections 2.1 and 2.2) -/

/-- Section 2.1. -/
theorem test_classify :
    [0, 1535, 1536, 2129, 2130, 3666, 408365, 408366, 408959, 408960, 410496, 560189].map
        (classify Thresholds.default) =
      [.draw, .draw, .hblank, .hblank, .draw, .hblank, .draw, .hblank, .hblank, .vblank, .vblank, .vblank] := by
  decide

/-- Section 2.2: state and event after one ADVANCE. -/
theorem test_advance_rows :
    [0, 1535, 2129, 408365, 408959, 411089, 412625, 560189].map
        (fun c => after (exec .advance (stateAt c)) fun t => (timing t, t.out.event)) =
      [some ((1, .draw, 0), none), some ((1536, .hblank, 0), some (.enterHBlank 0#9)),
        some ((2130, .draw, 1), some (.enterDraw 1#9)), some ((408366, .hblank, 191), some (.enterHBlank 191#9)),
        some ((408960, .vblank, 192), some (.enterVBlank 192#9)), some ((411090, .vblank, 193), none),
        some ((412626, .vblank, 193), none), some ((0, .draw, 0), some (.enterDraw 0#9))] := by
  decide +kernel

/-- Section 2.2, the port values of the row (408959, HBlank, 191). -/
theorem test_advance_ports :
    after (exec .advance (stateAt 408959))
        (fun t => (evtO t, evtLineO t, modeO t, cycleO t, presentValidO t)) =
      some (0b11#2, 0x0C0#9, 0b10#2, 0x63D80#20, true) := by
  decide +kernel

/-! ### Palette (sections 2.4 and 2.5) -/

/-- Section 2.4. -/
theorem test_expand :
    [0x0000#16, 0x0001#16, 0x0020#16, 0x0400#16, 0x7FFF#16, 0x8000#16, 0x83E0#16, 0x1234#16].map expand =
      [0xFF000000#32, 0xFF080000#32, 0xFF000800#32, 0xFF000008#32, 0xFFF8F8F8#32, 0xFF000000#32, 0xFF00F800#32,
        0xFFA08820#32] := by decide

/-- Section 2.5: a write leaves the derived colour stale. -/
theorem test_palwr :
    after (exec (.palwr 1#8 0x7FFF#16) State.reset) (fun t => (t.raw[1], t.derived[1], t.dirty[1], t.dirty[2])) =
      some (0x7FFF#16, 0xFF000000#32, true, false) := by decide +kernel

/-- E4: the round trip of entry 7. -/
theorem test_refresh :
    after (execAll [.palwr 7#8 0x1234#16, .refresh] State.reset) (fun t => (t.derived[7], t.dirty[7], t.derived[8])) =
      some (0xFFA08820#32, false, 0xFF000000#32) := by decide +kernel

/-! ### CFGWR and RESET (sections 2.6 and 2.12) -/

/-- Section 2.6: the reserved bits are dropped and no other register changes. -/
theorem test_cfgwr :
    after (exec (.cfgwr (.bgscrollx 1) 0x1FFFF#32) State.reset)
        (fun t => (cfgRead t.cfg (.bgscrollx 1), cfgRead t.cfg (.bgscrolly 1), cfgRead t.cfg (.bgscrollx 0))) =
      some (0xFFFF#32, 0#32, 0#32) := by decide +kernel

/-- Section 2.6: DISPCTL keeps four bits. -/
theorem test_cfgwr_dispctl :
    after (exec (.cfgwr .dispctl 0xFFFFFFF8#32) State.reset)
        (fun t => (t.cfg.dispctl, displayMode t.cfg, forcedBlank t.cfg)) =
      some (0x8#32, 0#3, true) := by decide +kernel

/-- Section 2.12: from VBlank back to Draw with no event, DIAG cleared, row A kept. -/
theorem test_reset :
    after (exec .reset { stateAt 408960 with diag := 0b11#2, lineA := Vector.replicate 256 0xFFF8F8F8#32 })
        (fun t => (timing t, t.diag, t.out.event, t.lineA[0])) =
      some ((0, .draw, 0), 0b00#2, none, 0xFFF8F8F8#32) := by decide +kernel

/-! ### The compositor (sections 2.7 to 2.9) -/

/-- A register file with the four control words given and every other register zero. -/
def withLayers (b0 b1 b2 b3 : BitVec 32) : CfgRegs :=
  ⟨0#32, #v[⟨b0, 0#32, 0x8000#32, 0#32, 0#32⟩, ⟨b1, 0x2000#32, 0x8000#32, 0#32, 0#32⟩,
    ⟨b2, 0x4000#32, 0x8000#32, 0#32, 0#32⟩, ⟨b3, 0x2000#32, 0x8000#32, 0#32, 0#32⟩]⟩

/-- Section 2.7: the order of the layers, the priority in bits 2:1 of each control word. -/
theorem test_layer_order :
    [layerOrder (withLayers 0#32 0#32 0#32 0#32), layerOrder (withLayers 6#32 4#32 2#32 0#32),
      layerOrder (withLayers 4#32 0#32 4#32 2#32), layerOrder (withLayers 2#32 2#32 0#32 0#32),
      layerOrder (withLayers 6#32 0#32 0#32 6#32)] =
    [[0, 1, 2, 3], [3, 2, 1, 0], [1, 3, 0, 2], [2, 3, 0, 1], [1, 2, 0, 3]] := by decide

/-- The VRAM of section 2.7: the tile of layer 0 is all 1, that of layers 1 and 3 all 2. -/
def tilesVram : Memory :=
  (List.range 32).map (fun k => (k, 0x11#8)) ++ (List.range 32).map (fun k => (0x2000 + k, 0x22#8))

/-- The palette of section 2.7: blue, red, green. -/
def rgbPalette : Vector Colour 256 :=
  tabulate 256 fun i => if i = 0 then 0xFF0000F8#32 else if i = 1 then 0xFFF80000#32 else 0xFF00F800#32

/-- Section 2.7: the eight compositions, in the table's order. -/
theorem test_composition :
    [withLayers 3#32 1#32 0#32 0#32, withLayers 3#32 3#32 0#32 0#32, withLayers 5#32 7#32 1#32 0#32,
      withLayers 0#32 7#32 0#32 0#32, withLayers 0#32 0#32 1#32 0#32, withLayers 7#32 0#32 0#32 7#32,
      withLayers 5#32 1#32 5#32 3#32, withLayers 0#32 0#32 0#32 0#32].map
        (fun cfg => composeA .tile0 cfg tilesVram rgbPalette 0#9 0) =
    [0xFF00F800#32, 0xFFF80000#32, 0xFFF80000#32, 0xFF00F800#32, 0xFF0000F8#32, 0xFFF80000#32, 0xFF00F800#32,
      0xFF0000F8#32] := by decide +kernel

/-- Section 2.8, rows T2 to T8: nibbles, palette bank and flips. -/
theorem test_tile_samples_4 :
    let r : LayerRegs := ⟨0x001#32, 0x4000#32, 0#32, 0#32, 0#32⟩
    let t2 : Memory := [(2, 0x05#8), (3, 0x30#8), (0x40A0, 0x2A#8)]
    let t4 : Memory := [(2, 0x05#8), (3, 0x04#8), (0x40A0, 0x2A#8), (0x40A3, 0xC7#8)]
    let t6 : Memory := [(2, 0x05#8), (3, 0x08#8), (0x40A0, 0x2A#8), (0x40BC, 0x0D#8)]
    let t8 : Memory := [(2, 0x05#8), (3, 0xFC#8), (0x40BF, 0x9E#8)]
    [tileSample r t2 8 0#9, tileSample r t2 9 0#9, tileSample r t4 8 0#9, tileSample r t4 15 0#9, tileSample r t6 8 0#9,
      tileSample r t6 8 7#9, tileSample r t8 8 0#9] =
    [.indexed 58#8, .indexed 50#8, .indexed 12#8, .indexed 10#8, .indexed 13#8, .indexed 10#8, .indexed 249#8] := by
  decide +kernel

/-- Section 2.8, rows T9, T10 and T18: 8 bits per pixel, its transparency, and the wrap of a tile address. -/
theorem test_tile_samples_8 :
    let r : LayerRegs := ⟨0x009#32, 0x4000#32, 0#32, 0#32, 0#32⟩
    [tileSample r [(0, 0x02#8), (1, 0x70#8), (0x409E, 0xC8#8)] 6 3#9,
      tileSample r [(0, 0x02#8), (1, 0x70#8)] 6 3#9,
      tileSample ⟨0x001#32, 0xFFFFFFF0#32, 0#32, 0#32, 0#32⟩ [(0, 0x01#8), (0x10, 0x07#8)] 0 0#9] =
    [.indexed 200#8, .transparent, .indexed 7#8] := by decide +kernel

/-- Section 2.8, the map-entry addresses of the rows T11 to T14, T17, T20, T21 and T22. -/
theorem test_map_addresses :
    [(0x011#32, 0x8000#32, 1#32, 0#32, (255 : Fin 256), 0#9), (0x031#32, 0x8000#32, 256#32, 264#32, 0, 0#9),
      (0x021#32, 0x8000#32, 0#32, 1#32, 0, 255#9), (0x021#32, 0x8000#32, 0#32, 0#32, 0, 262#9),
      (0x001#32, 0#32, 0#32, 0#32, 255, 191#9), (0x001#32, 0#32, 0#32, 200#32, 0, 100#9),
      (0x031#32, 0x8000#32, 511#32, 511#32, 1, 1#9), (0x001#32, 0xFFFFFFFE#32, 0#32, 0#32, 8, 0#9)].map
        (fun q =>
          let r : LayerRegs := ⟨q.1, 0#32, q.2.1, q.2.2.1, q.2.2.2.1⟩
          mapEntryAddr r (mapX r q.2.2.2.2.1) (mapY r q.2.2.2.2.2)) =
    [0x8800#32, 0x9840#32, 0x8800#32, 0x8800#32, 0x5FE#32, 0x140#32, 0x8000#32, 0#32] := by decide +kernel

/-- The set-up of E6: every map entry 0, tile 0 of layer 0 all 1, palette entry 1 white. -/
def e6 : State :=
  { State.reset with
    cfg := cfgWrite (cfgWrite State.reset.cfg (.bgtilebase 0) 0x1000#32) (.bgctl 0) 0x001#32
    vram := (List.range 32).map fun k => (0x1000 + k, 0x11#8)
    derived := tabulate 256 fun i => if i = 1 then expand 0x7FFF#16 else 0xFF000000#32 }

/-- E6 and section 2.9: the white display colour on a visible line and on line 262. -/
theorem test_render_e6 :
    [after (exec (.render 0#9) e6) (fun t => (t.lineA[5], t.diag)),
      after (exec (.render 262#9) e6) (fun t => (t.lineA[255], t.diag))] =
    [some (0xFFF8F8F8#32, 0#2), some (0xFFF8F8F8#32, 0#2)] := by decide +kernel

/-- Section 2.9: display mode 6 leaves the rows and raises the diagnostic. -/
theorem test_render_mode6 :
    after (exec (.render 5#9) { withControls 6#32 0#32 with lineA := Vector.replicate 256 0xFFF80000#32 })
        (fun t => (t.lineA[9], t.diag, t.out.diagPulse)) =
      some (0xFFF80000#32, 0b01#2, 0b01#2) := by decide +kernel

/-! ### The frame buffer (sections 2.10 and 2.11) -/

/-- Reset with every entry of row A 0xAA and of row B 0xBB. -/
def rowsFilled : State :=
  { State.reset with lineA := Vector.replicate 256 0xAA#32, lineB := Vector.replicate 256 0xBB#32 }

/-- Section 2.10: the edges of what LINECOPY 1 writes. -/
theorem test_linecopy :
    after (exec (.linecopy 1#9) rowsFilled) (fun t =>
        [t.fb.entry 255, t.fb.entry 256, t.fb.entry 511, t.fb.entry 512, t.fb.entry 49407, t.fb.entry 49408,
          t.fb.entry 49663, t.fb.entry 49664]) =
      some [0#32, 0xAA#32, 0xAA#32, 0#32, 0#32, 0xBB#32, 0xBB#32, 0#32] := by decide +kernel

/-- Section 2.10: the edges of what LINEFILL 191 writes. -/
theorem test_linefill :
    after (exec (.linefill 191#9) rowsFilled) (fun t =>
        [t.fb.entry 48895, t.fb.entry 48896, t.fb.entry 49151, t.fb.entry 98047, t.fb.entry 98048, t.fb.entry 98303]) =
      some [0#32, 0xFFFFFFFF#32, 0xFFFFFFFF#32, 0#32, 0xFFFFFFFF#32, 0xFFFFFFFF#32] := by decide +kernel

/-- Section 2.11, the table's four rows: DIAG and the pulse. -/
theorem test_present :
    [(true, 0b00#2), (false, 0b00#2), (true, 0b10#2), (false, 0b01#2)].map
        (fun q => after (exec .present { State.reset with sinkOk := q.1, diag := q.2 })
          fun t => (t.diag, t.out.diagPulse, presentValidO t)) =
      [some (0b00#2, 0b00#2, true), some (0b10#2, 0b10#2, true), some (0b10#2, 0b00#2, true),
        some (0b11#2, 0b10#2, true)] := by decide +kernel

/-! ### The text form (R86, R87) -/

theorem test_parse_lines :
    ["PALWR 1, 0x7FFF".toList, "CFGWR DISPCTL, 0x8 ; forced blank".toList, "CFGWR 0x010, 1".toList, "RENDER 262".toList,
      "RENDER 263".toList, "ADVANCE 1535".toList, "HBLANKSVC 7".toList, "; a comment".toList].map parseLine =
    [some (.command (.palwr 1#8 0x7FFF#16)), some (.command (.cfgwr .dispctl 8#32)),
      some (.command (.cfgwr (.bgctl 0) 1#32)), some (.command (.render 262#9)), none, some (.advanceN 1535),
      some (.hblankSvc 7#9), some .blank] := by decide +kernel

/-! ### States and operands that meet the statements' hypotheses -/

/-- The stream item that carries `w`. -/
def item (w : CommandWord) : StreamItem := ⟨[], true, w⟩

/-- Reset with the stream holding `w` alone. -/
def streaming (w : CommandWord) : State := { State.reset with stream := [item w] }

/-- DecodeOfEncode, WellFormedCommandsComplete: the largest lines. -/
theorem witness_well_formed :
    (Instr.render 262#9).wellFormed = true ∧ (Instr.linecopy 191#9).wellFormed = true ∧
      (Instr.linefill 191#9).wellFormed = true := by decide

/-- EncodeOfDecode, DecodeFollowsMatchMask: a word of each constrained operation at its limit. -/
theorem witness_decoded :
    decode 0x4044000000000000#64 = .ok (.cfgwr (.bgscrolly 3) 0#32) ∧ decode 0x6106000000000000#64 = .ok (.render 262#9) ∧
      decode 0x70BF000000000000#64 = .ok (.linecopy 191#9) := by decide

/-- StepRunsDecodedCommand. -/
theorem witness_step_runs :
    (streaming 0x1000000000000000#64).stream = [item 0x1000000000000000#64] ∧
      decode (item 0x1000000000000000#64).word = .ok .advance := ⟨rfl, by decide⟩

/-- ReservedWordsExactlyRefused, the refused side: RENDER 263 and LINECOPY 192. -/
theorem witness_reserved :
    ReservedWord (item 0x6107000000000000#64).word ∧ ReservedWord (item 0x70C0000000000000#64).word := by
  constructor <;> simp [ReservedWord, item]

/-- ReservedWordsExactlyRefused, the other side: RENDER 262 and LINECOPY 191. -/
theorem witness_not_reserved :
    ¬ ReservedWord (item 0x6106000000000000#64).word ∧ ¬ ReservedWord (item 0x70BF000000000000#64).word := by
  constructor <;> simp [ReservedWord, item]

/-- IdleStepKeepsState. -/
theorem witness_idle : State.reset.stream = [] := rfl

/-- OutOfRangeLinesRefused, each clause at its limit. -/
theorem witness_out_of_range : 262 < (263#9).toNat ∧ 191 < (192#9).toNat := by decide

/-- A reachable state other than reset: in the HBlank of line 0 with a diagnostic raised and a dirty palette entry. -/
def inHBlank : State :=
  { stateAt 1600 with
    diag := 0b01#2
    raw := Vector.replicate 256 0x7FFF#16
    dirty := Vector.replicate 256 true
    vram := [(5, 0x11#8)]
    stream := [item 0x1000000000000000#64] }

/-- StepKeepsInvariants: the invariants hold of a state that steps. -/
theorem witness_invariants : Inv inHBlank ∧ ∃ t, step inHBlank = .next t := by
  refine ⟨⟨?_, ?_, ?_, ?_⟩, _, rfl⟩
  · have h := timingOk_stateAt 1600 (by decide)
    exact ⟨h.counter_lt, h.line_eq, h.mode_eq⟩
  · intro i h
    simp [inHBlank] at h
  · intro r
    have h : cfgRead inHBlank.cfg r = 0#32 := by
      cases r <;> simp [inHBlank, stateAt, timingAt, State.reset, cfgRead, resetLayer]
    rw [h, BitVec.zero_and]
  · decide

/-- AdvanceUpdatesTimingState, the wrap of the counter. -/
theorem witness_advance_wrap :
    (stateAt 560189).cycleCounter.toNat < 263 * (stateAt 560189).thresholds.cycLine ∧
      (stateAt 560189).scanlineIndex.toNat ≤ 262 := by decide +kernel

/-- An ADVANCE always answers its effect. -/
theorem advance_next (s : State) : exec .advance s = .next (advance (beginCommand s)) := rfl

/-- AdvanceWithoutServiceWritesTimingOnly: no event, and EnterDraw(0). -/
theorem witness_silent_and_draw :
    (advance (beginCommand (stateAt 0))).out.event = none ∧
      (advance (beginCommand (stateAt 560189))).out.event = some (.enterDraw 0#9) := by decide +kernel

/-- HBlankEntryRunsServiceCommands, HBlankEntryMakesPaletteCurrent, EventBoundariesFollowTable, EventsAreNotReemitted: the
last HBlank of a frame, without forced blank. -/
theorem witness_hblank_entry :
    TimingOk (stateAt 408365) ∧ forcedBlank (stateAt 408365).cfg = false ∧
      (advance (beginCommand (stateAt 408365))).out.event = some (.enterHBlank 191#9) :=
  ⟨timingOk_stateAt _ (by decide), by decide +kernel, by decide +kernel⟩

/-- At the end of line 0's Draw with the forced-blank flag set. -/
def blankedAt1535 : State := { stateAt 1535 with cfg := cfgWrite State.reset.cfg .dispctl 0x8#32 }

/-- HBlankEntryRunsServiceCommands under forced blank; ForcedBlankFrameIsWhite. -/
theorem witness_hblank_entry_blanked :
    TimingOk blankedAt1535 ∧ forcedBlank blankedAt1535.cfg = true ∧
      (advance (beginCommand blankedAt1535)).out.event = some (.enterHBlank 0#9) := by
  have h := timingOk_stateAt 1535 (by decide)
  exact ⟨⟨h.counter_lt, h.line_eq, h.mode_eq⟩, by decide +kernel, by decide +kernel⟩

/-- HBlankEntryMakesPaletteCurrent: a state that keeps the palette invariant with every entry dirty. -/
theorem witness_palette_ok : PaletteOk { stateAt 1535 with dirty := Vector.replicate 256 true } := by
  intro i h
  simp at h

/-- VBlankEntryRunsPresent, EventBoundariesFollowTable, EventsAreNotReemitted. -/
theorem witness_vblank_entry :
    TimingOk (stateAt 408959) ∧
      (advance (beginCommand (stateAt 408959))).out.event = some (.enterVBlank 192#9) :=
  ⟨timingOk_stateAt _ (by decide), by decide +kernel⟩

/-- EventBoundariesFollowTable, EventsAreNotReemitted: EnterDraw(191). -/
theorem witness_draw_entry :
    TimingOk (stateAt 406829) ∧
      (advance (beginCommand (stateAt 406829))).out.event = some (.enterDraw 191#9) :=
  ⟨timingOk_stateAt _ (by decide), by decide +kernel⟩

/-- PhaseOrderIsCyclic, EventPortFollowsModePort: each of the four transitions, and an ADVANCE without one. -/
theorem witness_transitions :
    [408365, 406829, 408959, 560189, 0].map
        (fun c => ((stateAt c).mode, (advance (beginCommand (stateAt c))).mode)) =
      [(.draw, .hblank), (.hblank, .draw), (.hblank, .vblank), (.vblank, .draw), (.draw, .draw)] := by decide +kernel

/-- FirstEventAfterResetIsHBlank, ResetWritesPowerOnValues: RESET answers a next state. -/
theorem witness_reset_next : exec .reset inHBlank = .next (resetBlock (beginCommand inHBlank)) := rfl

/-- OtherCommandsKeepTimingState, DiagnosticBitsAreSticky, DiagIsNeverRead, NoCommandWritesVram: PRESENT. -/
theorem witness_present_next :
    exec .present inHBlank = .next (present (beginCommand inHBlank)) ∧ Instr.present ≠ .advance ∧
      Instr.present ≠ .reset := ⟨rfl, by decide, by decide⟩

/-- One frame of ADVANCE commands of the short line. -/
def frameOfAdvances : State :=
  { timingAt shortLine 788 with stream := List.replicate 789 (item 0x1000000000000000#64) ++ [] }

/-- FramePeriodReturnsTimingState. -/
theorem witness_frame :
    TimingOk frameOfAdvances ∧
      frameOfAdvances.stream = List.replicate 789 (item 0x1000000000000000#64) ++ [] ∧
      (∀ c ∈ List.replicate 789 (item 0x1000000000000000#64), ∃ i, decode c.word = .ok i ∧ i ≠ .reset) ∧
      (List.replicate 789 (item 0x1000000000000000#64)).countP StreamItem.isAdvance =
        frameOfAdvances.thresholds.cycFrame := by
  refine ⟨?_, rfl, ?_, ?_⟩
  · have h := timingOk_timingAt shortLine 788 (by decide)
    exact ⟨h.counter_lt, h.line_eq, h.mode_eq⟩
  · intro c hc
    rw [List.eq_of_mem_replicate hc]
    exact ⟨.advance, by decide, by decide⟩
  · rw [List.countP_replicate, if_pos (by decide)]; rfl

/-- FrameEventCensus, ScanlineCensus, at the first and the last counter value of a frame. -/
theorem witness_census : TimingOk (stateAt 0) ∧ TimingOk (stateAt 560189) ∧ (262#9).toNat ≤ 262 ∧ (191#9).toNat < 192 :=
  ⟨timingOk_stateAt _ (by decide), timingOk_stateAt _ (by decide), by decide, by decide⟩

/-- SecondRefreshChangesNothing: other commands between the two. -/
theorem witness_second_refresh :
    (∀ i ∈ [Instr.advance, .cfgwr .dispctl 1#32], i ≠ .reset ∧ ∀ k v, i ≠ .palwr k v) ∧
      ∃ t, execAll (.refresh :: [.advance, .cfgwr .dispctl 1#32]) State.reset = .next t := by
  refine ⟨?_, _, rfl⟩
  intro i hi
  simp only [List.mem_cons, List.not_mem_nil, or_false] at hi
  rcases hi with rfl | rfl <;> simp

/-- OnlyPalwrSetsDirtyFlags. -/
theorem witness_flag_set :
    State.reset.dirty[255] = false ∧
      after (exec (.palwr 255#8 1#16) State.reset) (fun t => t.dirty[255]) = some true := by decide +kernel

/-- CfgwrStoresUnderMask: two different registers of one layer. -/
theorem witness_other_register : CfgReg.bgscrolly 3 ≠ .bgscrollx 3 := by decide

/-- FrontLayerWinsElseBackdrop: layer 1 in front of layer 0 by priority, layer 0 before layer 3 by number, and a layer
that is disabled or transparent. -/
theorem witness_front_layer :
    let cfg := withLayers 3#32 1#32 0#32 3#32
    let sample : Fin 4 → Sample := fun l => if l = 1 then .indexed 255#8 else if l = 0 then .direct 0x7FFF#16 else .transparent
    (layerEnabled cfg.layers[(1 : Fin 4)] = true ∧ sample 1 = .indexed 255#8 ∧
      ∀ m : Fin 4, m ≠ 1 → layerEnabled cfg.layers[m] = true → sample m ≠ .transparent →
        (layerPriority cfg.layers[(1 : Fin 4)]).toNat < (layerPriority cfg.layers[m]).toNat ∨
          layerPriority cfg.layers[(1 : Fin 4)] = layerPriority cfg.layers[m] ∧ (1 : Fin 4) < m) := by decide

/-- FrontLayerWinsElseBackdrop: a direct colour wins its tie by the layer number. -/
theorem witness_front_layer_direct :
    let cfg := withLayers 3#32 0#32 0#32 3#32
    let sample : Fin 4 → Sample := fun _ => .direct 0x7FFF#16
    (layerEnabled cfg.layers[(0 : Fin 4)] = true ∧ sample 0 = .direct 0x7FFF#16 ∧
      ∀ m : Fin 4, m ≠ 0 → layerEnabled cfg.layers[m] = true → sample m ≠ .transparent →
        (layerPriority cfg.layers[(0 : Fin 4)]).toNat < (layerPriority cfg.layers[m]).toNat ∨
          layerPriority cfg.layers[(0 : Fin 4)] = layerPriority cfg.layers[m] ∧ (0 : Fin 4) < m) := by decide

/-- FrontLayerWinsElseBackdrop: an enabled layer with a transparent sample leaves the backdrop. -/
theorem witness_backdrop :
    let cfg := withLayers 0#32 0#32 1#32 0#32
    let sample : Fin 4 → Sample := fun l => if l = 2 then .transparent else .indexed 1#8
    layerEnabled cfg.layers[(2 : Fin 4)] = true ∧
      ∀ l : Fin 4, layerEnabled cfg.layers[l] = true → sample l = .transparent := by decide

/-- RenderFillsBothRows, RenderReadsOnlyItsInputs: every supported mode. -/
theorem witness_supported_modes :
    [0#32, 1#32, 2#32, 3#32, 4#32, 5#32].map (fun d => (displayMode (withControls d 0#32).cfg).toNat) =
      [0, 1, 2, 3, 4, 5] := by decide +kernel

/-- RenderUnsupportedModeKeepsRows: both unsupported modes, on the last line. -/
theorem witness_unsupported_modes :
    6 ≤ (displayMode (withControls 6#32 0#32).cfg).toNat ∧ 6 ≤ (displayMode (withControls 7#32 0#32).cfg).toNat ∧
      (262#9).toNat ≤ 262 := by decide +kernel

/-- RenderReadsOnlyItsInputs: two states with another `raw` and another `dirty`. -/
theorem witness_render_inputs :
    e6.cfg = { e6 with raw := Vector.replicate 256 1#16, dirty := Vector.replicate 256 true }.cfg ∧
      (∃ t, exec (.render 262#9) e6 = .next t) ∧
      ∃ t, exec (.render 262#9) { e6 with raw := Vector.replicate 256 1#16, dirty := Vector.replicate 256 true } =
        .next t := ⟨rfl, ⟨_, rfl⟩, ⟨_, rfl⟩⟩

/-- TileSamplesNameShownEntries: an indexed sample at each depth. -/
theorem witness_tile_indexed :
    sampleOf .tile0 e6.cfg e6.vram 0 5 0#9 = .indexed 1#8 ∧ layerDepth8 e6.cfg.layers[(0 : Fin 4)] = false ∧
      sampleOf .tile0 (cfgWrite e6.cfg (.bgctl 0) 0x9#32) e6.vram 0 5 0#9 = .indexed 0x11#8 ∧
      layerDepth8 (cfgWrite e6.cfg (.bgctl 0) 0x9#32).layers[(0 : Fin 4)] = true := by decide +kernel

/-- FrameBufferLayoutIsRowMajor, LinecopyWritesItsLine, LinefillWhitensItsLine: the two screens' first and last entries, and
an entry outside the line. -/
theorem witness_indices :
    fbIndexA 0 0 = 0 ∧ fbIndexA 191 255 = 49151 ∧ fbIndexB 0 0 = 49152 ∧ fbIndexB 191 255 = 98303 ∧
      (191#9).toNat ≤ 191 ∧ ∀ x : Fin 256, 0 ≠ fbIndexA 191 x ∧ 0 ≠ fbIndexB 191 x := by decide +kernel

/-- OutputsComeFromTheirCommands: an event from ADVANCE, a frame from PRESENT and from the ADVANCE that enters VBlank. -/
theorem witness_outputs :
    (advance (beginCommand (stateAt 1535))).out.event ≠ none ∧
      (present (beginCommand State.reset)).out.frame.isSome = true ∧
      (advance (beginCommand (stateAt 408959))).out.frame.isSome = true := by decide +kernel

/-- OutputsComeFromTheirCommands: bit 0 of the pulse from RENDER and from the ADVANCE that enters HBlank, bit 1 from PRESENT
and from the ADVANCE that enters VBlank. -/
theorem witness_pulses :
    [after (exec (.render 0#9) (withControls 6#32 0#32)) fun t => t.out.diagPulse,
      after (exec .advance { stateAt 1535 with cfg := (withControls 7#32 0#32).cfg }) fun t => t.out.diagPulse,
      after (exec .present { State.reset with sinkOk := false }) fun t => t.out.diagPulse,
      after (exec .advance { stateAt 408959 with sinkOk := false }) fun t => t.out.diagPulse] =
    [some 0b01#2, some 0b01#2, some 0b10#2, some 0b10#2] := by decide +kernel

/-- EventPortFollowsModePort: a state with no event and one with each event. -/
theorem witness_ports :
    [State.reset, advance (beginCommand (stateAt 406829)), advance (beginCommand (stateAt 408365)),
        advance (beginCommand (stateAt 408959))].map (fun s => s.out.event) =
      [none, some (.enterDraw 191#9), some (.enterHBlank 191#9), some (.enterVBlank 192#9)] := by decide +kernel

/-- StateIsWrittenByItsOwners: each kind of state changed by one of its owners. -/
theorem witness_owners :
    after (exec (.cfgwr .dispctl 1#32) State.reset) (fun t => t.cfg.dispctl) = some 1#32 ∧
      after (exec (.palwr 0#8 1#16) State.reset) (fun t => t.raw[0]) = some 1#16 ∧
      after (exec .refresh inHBlank) (fun t => t.derived[0]) = some 0xFFF8F8F8#32 ∧
      after (exec (.render 0#9) { e6 with lineA := Vector.replicate 256 0#32 }) (fun t => t.lineA[0]) =
        some 0xFFF8F8F8#32 ∧
      after (exec (.linefill 0#9) State.reset) (fun t => t.fb.entry 0) = some 0xFFFFFFFF#32 := by decide +kernel

/-- VramWritesAreReadBack: a canonical memory with entries below, at and above the address, at the ends of the space. -/
theorem witness_memory : Memory.wf [(0, 0x01#8), (5, 0x11#8), (2 ^ 32 - 1, 0xFF#8)] := by decide

/-- R32 (b): of two changes to one address the later one is read back, and a byte 0x00 leaves no entry. -/
theorem test_changes_first_to_last :
    memWrites [(5, 0x11#8)] [(7#32, 0x22#8), (5#32, 0x33#8), (7#32, 0x44#8), (5#32, 0x00#8)] = [(7, 0x44#8)] := by decide

end Sys2Proof.Tests
end

section
/-!
Proofs for `00_scope.md`: a step executes the command it accepts, and every well-formed command completes (R6).
-/

namespace Sys2Proof.Machine

/-- Accepting an item as a record update: the three inputs of `10_state.md` R32 change, every other field is kept. -/
theorem acceptItem_eq (c : StreamItem) (rest : List StreamItem) (s : State) :
    acceptItem c rest s = { s with stream := rest, sinkOk := c.sinkOk, vram := memWrites s.vram c.vramWrites } := rfl

/-- The executing case of `step`. -/
theorem step_of_decode_ok {s : State} {c : StreamItem} {rest : List StreamItem} {i : Instr}
    (hstream : s.stream = c :: rest) (hdecode : decode c.word = .ok i) :
    step s = exec i (acceptItem c rest s) := by
  simp only [step, hstream, hdecode]

/-- The next state of a well-formed command is its `effect`. -/
theorem exec_of_wellFormed {i : Instr} (h : i.wellFormed = true) (s : State) : exec i s = .next (effect i s) :=
  (exec_next_iff i s (effect i s)).mpr ⟨h, rfl⟩

/-- Settles O5: the executing case of `step`, with the accepted item's changes written out. -/
theorem stepRunsDecodedCommand : Obligations.StepRunsDecodedCommand := by
  intro s c rest i hstream hdecode
  rw [step_of_decode_ok hstream hdecode, acceptItem_eq]

/-- Settles O8: the next state is the command's `effect`. -/
theorem wellFormedCommandsComplete : Obligations.WellFormedCommandsComplete :=
  fun i s hwf => ⟨effect i s, exec_of_wellFormed hwf s⟩

end Sys2Proof.Machine
end

section
/-!
Proofs for `10_state.md`: the values after power-on, the invariants every step keeps, the register fields, the
diagnostics, the output record, and the tile/map memory.
-/

namespace Sys2Proof.Machine

/-! ### The state after power-on (R34) -/

/-- RESET of the power-on state is that state, so the rules of `resetBlock` speak of it. -/
theorem resetBlock_reset : resetBlock State.reset = State.reset := rfl

@[simp] theorem cfgRead_resetBlock (s : State) (r : CfgReg) : cfgRead (resetBlock s).cfg r = 0#32 := by
  cases r <;> simp [cfgRead, resetLayer]

@[simp] theorem entry_clearedFrameBuffer (k : Fin 98304) : clearedFrameBuffer.entry k = fbClear := by
  unfold FrameBuffer.entry
  split <;> simp [clearedFrameBuffer]

/-- Settles O10: each row of the table by the rule of `resetBlock` for its field. -/
theorem resetStateHoldsTableValues : Obligations.ResetStateHoldsTableValues := by
  unfold Obligations.ResetStateHoldsTableValues
  rw [← resetBlock_reset]
  refine ⟨rfl, rfl, rfl, cfgRead_resetBlock _, rfl, fun i => ?_, entry_clearedFrameBuffer⟩
  simp

/-! ### The invariant of TimingState (R14) -/

/-- The timing invariant reads four fields only. -/
theorem TimingOk.congr {s t : State} (h : TimingOk s) (hcounter : t.cycleCounter = s.cycleCounter)
    (hmode : t.mode = s.mode) (hline : t.scanlineIndex = s.scanlineIndex) (hthresholds : t.thresholds = s.thresholds) :
    TimingOk t where
  counter_lt := by rw [hcounter, hthresholds]; exact h.counter_lt
  line_eq := by rw [hcounter, hline, hthresholds]; exact h.line_eq
  mode_eq := by rw [hcounter, hmode, hthresholds]; exact h.mode_eq

theorem resetBlock_timingOk (s : State) : TimingOk (resetBlock s) where
  counter_lt := cycFrame_pos s.thresholds
  line_eq := (Nat.zero_div _).symm
  mode_eq := by simpa [s.thresholds.draw_pos] using (classify_split s.thresholds 0 0 (cycLine_pos _)).symm

/-- Only ADVANCE and RESET write the mode, the counter and the scanline index. -/
theorem effect_timingState {i : Instr} (hadvance : i ≠ .advance) (hreset : i ≠ .reset) (s : State) :
    (effect i s).cycleCounter = s.cycleCounter ∧ (effect i s).mode = s.mode ∧
      (effect i s).scanlineIndex = s.scanlineIndex := by
  cases i <;> simp_all [effect]

@[simp] theorem effect_thresholds (i : Instr) (s : State) : (effect i s).thresholds = s.thresholds := by
  cases i <;> simp [effect]

theorem effect_timingOk (i : Instr) {s : State} (h : TimingOk s) : TimingOk (effect i s) := by
  by_cases hadvance : i = .advance
  · subst hadvance
    exact advance_timingOk (h.congr rfl rfl rfl rfl)
  · by_cases hreset : i = .reset
    · subst hreset
      exact resetBlock_timingOk _
    · obtain ⟨hcounter, hmode, hline⟩ := effect_timingState hadvance hreset s
      exact h.congr hcounter hmode hline (effect_thresholds i s)

/-! ### The palette invariant (R28) -/

/-- The palette invariant reads the three palette arrays only. -/
theorem PaletteOk.congr {s t : State} (h : PaletteOk s) (hraw : t.raw = s.raw) (hderived : t.derived = s.derived)
    (hdirty : t.dirty = s.dirty) : PaletteOk t := by
  unfold PaletteOk
  rw [hraw, hderived, hdirty]
  exact h

/-- The arrays a REFRESH leaves meet the invariant: an entry was dirty and is expanded now, or was clean and current. -/
theorem PaletteOk.of_refreshed {s t : State} (h : PaletteOk s) (hraw : t.raw = s.raw)
    (hderived : t.derived = refreshedDerived s.raw s.derived s.dirty) : PaletteOk t := by
  intro i _
  have hi := h i
  simp only [Fin.getElem_fin] at hi ⊢
  rw [hraw, hderived, getElem_refreshedDerived]
  cases hd : s.dirty[i.val] with
  | true => simp
  | false => simpa using hi hd

/-- A palette write makes its own entry dirty, of which the invariant says nothing. -/
theorem paletteWrite_paletteOk (k : BitVec 8) (v : RawColour) {s : State} (h : PaletteOk s) :
    PaletteOk (paletteWrite k v s) := by
  intro i hclean
  simp only [paletteWrite_dirty, paletteWrite_derived, paletteWrite_raw, Fin.getElem_fin, getElem_setDirty] at hclean ⊢
  split at hclean
  · contradiction
  · next hother =>
    rw [Vector.getElem_set_ne _ _ hother]
    exact h i hclean

theorem resetBlock_paletteOk (s : State) : PaletteOk (resetBlock s) := by
  have hexpand : expand 0x0000#16 = 0xFF000000#32 := by decide
  intro i _
  simp [hexpand]

theorem service_paletteOk (e : PhaseEvent) {s : State} (h : PaletteOk s) : PaletteOk (service e s) := by
  cases e with
  | enterDraw y => exact h
  | enterHBlank y => exact h.of_refreshed (serviceHBlank_raw y s) (serviceHBlank_derived y s)
  | enterVBlank y => exact h.congr (present_raw s) (present_derived s) (present_dirty s)

theorem advance_paletteOk {s : State} (h : PaletteOk s) : PaletteOk (advance s) := by
  by_cases hmode : newMode s = s.mode
  · rw [advance_of_same hmode]
    exact h.congr rfl rfl rfl
  · rw [advance_of_entry hmode]
    exact service_paletteOk _ (h.congr rfl rfl rfl)

theorem effect_paletteOk (i : Instr) {s : State} (h : PaletteOk s) : PaletteOk (effect i s) := by
  have hbegin : PaletteOk (beginCommand s) := h.congr rfl rfl rfl
  cases i with
  | advance => exact advance_paletteOk hbegin
  | reset => exact resetBlock_paletteOk _
  | palwr k v => exact paletteWrite_paletteOk k v hbegin
  | refresh => exact hbegin.of_refreshed rfl rfl
  | render y => exact hbegin.congr (render_raw y _) (render_derived y _) (render_dirty y _)
  | present => exact hbegin.congr (present_raw _) (present_derived _) (present_dirty _)
  | cfgwr _ _ | linecopy _ | linefill _ => exact hbegin.congr rfl rfl rfl

/-! ### The reserved configuration bits (R18) -/

theorem ConfigOk.congr {s t : State} (h : ConfigOk s) (hcfg : t.cfg = s.cfg) : ConfigOk t := by
  unfold ConfigOk
  rw [hcfg]
  exact h

theorem resetBlock_configOk (s : State) : ConfigOk (resetBlock s) := by
  intro r
  rw [cfgRead_resetBlock, BitVec.zero_and]

/-- A write stores the value under the register's mask and leaves every other register. -/
theorem cfgWrite_configOk (r : CfgReg) (v : BitVec 32) {s t : State} (h : ConfigOk s)
    (hcfg : t.cfg = cfgWrite s.cfg r v) : ConfigOk t := by
  intro r'
  rw [hcfg]
  by_cases hr : r' = r
  · rw [hr, cfgRead_cfgWrite_same, BitVec.and_assoc, BitVec.and_self]
  · rw [cfgRead_cfgWrite_other _ _ hr]
    exact h r'

/-- Only RESET and CFGWR write the configuration registers. -/
theorem effect_cfg {i : Instr} (hreset : i ≠ .reset) (hcfgwr : ∀ r v, i ≠ .cfgwr r v) (s : State) :
    (effect i s).cfg = s.cfg := by
  cases i <;> simp_all [effect]

theorem effect_configOk (i : Instr) {s : State} (h : ConfigOk s) : ConfigOk (effect i s) := by
  cases i with
  | reset => exact resetBlock_configOk _
  | cfgwr r v => exact cfgWrite_configOk r v h rfl
  | _ => exact h.congr (effect_cfg (by simp) (by simp) s)

/-! ### All invariants together -/

@[simp] theorem effect_vram (i : Instr) (s : State) : (effect i s).vram = s.vram := by
  cases i <;> simp [effect]

theorem resetBlock_inv {s : State} (h : Memory.wf s.vram) : Inv (resetBlock s) :=
  ⟨resetBlock_timingOk s, resetBlock_paletteOk s, resetBlock_configOk s, h⟩

theorem effect_inv (i : Instr) {s : State} (h : Inv s) : Inv (effect i s) where
  timing := effect_timingOk i h.timing
  palette := effect_paletteOk i h.palette
  config := effect_configOk i h.config
  vram := by rw [effect_vram]; exact h.vram

theorem idle_inv {s : State} (h : Inv s) : Inv (idle s) :=
  ⟨h.timing.congr rfl rfl rfl rfl, h.palette.congr rfl rfl rfl, h.config.congr rfl, h.vram⟩

/-- Of the invariants, accepting an item touches the memory's canonical form only. -/
theorem acceptItem_inv (c : StreamItem) (rest : List StreamItem) {s : State} (h : Inv s) : Inv (acceptItem c rest s) :=
  ⟨h.timing.congr rfl rfl rfl rfl, h.palette.congr rfl rfl rfl, h.config.congr rfl, memWrites_wf c.vramWrites h.vram⟩

/-- What a step that answers a next state did: nothing was pending, or the next item's word spells a well-formed command. -/
theorem step_next_cases {s t : State} (h : step s = .next t) :
    (s.stream = [] ∧ t = idle s) ∨
      ∃ c rest i, s.stream = c :: rest ∧ decode c.word = .ok i ∧ i.wellFormed = true ∧
        t = effect i (acceptItem c rest s) := by
  cases hstream : s.stream with
  | nil =>
    simp only [step, hstream, Host.Outcome.next.injEq] at h
    exact .inl ⟨rfl, h.symm⟩
  | cons c rest =>
    cases hdecode : decode c.word with
    | error why => simp [step, hstream, hdecode] at h
    | ok i =>
      rw [step_of_decode_ok hstream hdecode, exec_next_iff] at h
      exact .inr ⟨c, rest, i, rfl, hdecode, h⟩

/-- Settles O12: the power-on state is what RESET leaves, with no byte of VRAM listed. -/
theorem resetMeetsInvariants : Obligations.ResetMeetsInvariants := by
  unfold Obligations.ResetMeetsInvariants
  rw [← resetBlock_reset]
  exact resetBlock_inv wf_nil

/-- Settles O13: an idle step, and an accepted item followed by its command's effect, keep the invariants. -/
theorem stepKeepsInvariants : Obligations.StepKeepsInvariants := by
  intro s t hinv hstep
  obtain ⟨-, rfl⟩ | ⟨c, rest, i, -, -, -, rfl⟩ := step_next_cases hstep
  · exact idle_inv hinv
  · exact effect_inv i (acceptItem_inv c rest hinv)

/-! ### The fields of DISPCTL and BGCTL (R19, R20) -/

/-- A field that lies inside a mask holds the value's own bits. -/
theorem toNat_extract_and {w lo len : Nat} (v : BitVec w) {m : BitVec w}
    (hm : m.extractLsb' lo len = BitVec.allOnes len) :
    ((v &&& m).extractLsb' lo len).toNat = v.toNat / 2 ^ lo % 2 ^ len := by
  rw [BitVec.extractLsb'_and, hm, BitVec.and_allOnes, toNat_extract]

/-- A flag that lies inside a mask holds the value's own bit. -/
theorem getLsbD_and_iff {w k : Nat} (v : BitVec w) {m : BitVec w} (hm : m.getLsbD k = true) :
    (v &&& m).getLsbD k = true ↔ v.toNat / 2 ^ k % 2 = 1 := by
  rw [BitVec.getLsbD_and, hm, Bool.and_true, ← BitVec.testBit_toNat, Nat.testBit_eq_decide_div_mod_eq, decide_eq_true_iff]

theorem dispctl_cfgWrite (cfg : CfgRegs) (v : BitVec 32) :
    (cfgWrite cfg .dispctl v).dispctl = v &&& 0x0000000F#32 := cfgRead_cfgWrite_same cfg .dispctl v

theorem bgctl_cfgWrite (cfg : CfgRegs) (l : Fin 4) (v : BitVec 32) :
    (cfgWrite cfg (.bgctl l) v).layers[l].bgctl = v &&& 0x000001FF#32 := cfgRead_cfgWrite_same cfg (.bgctl l) v

/-- Settles O34: each field lies inside its register's write mask. -/
theorem cfgwrSetsFields : Obligations.CfgwrSetsFields := by
  intro l v s
  refine ⟨⟨_, rfl, ?_, ?_⟩, ⟨_, rfl, ?_, ?_, ?_, ?_, ?_⟩⟩
  · rw [displayMode, dispctl_cfgWrite]
    exact (toNat_extract_and v (by decide)).trans (by simp)
  · rw [forcedBlank, dispctl_cfgWrite]
    exact getLsbD_and_iff v (by decide)
  · rw [layerEnabled, bgctl_cfgWrite]
    exact (getLsbD_and_iff v (by decide)).trans (by simp)
  · rw [layerPriority, bgctl_cfgWrite]
    exact toNat_extract_and v (by decide)
  · rw [layerDepth8, bgctl_cfgWrite]
    exact getLsbD_and_iff v (by decide)
  · rw [layerSizeClass, bgctl_cfgWrite]
    exact toNat_extract_and v (by decide)
  · rw [layerModeTag, bgctl_cfgWrite]
    exact toNat_extract_and v (by decide)

/-! ### DIAG: never read, and sticky (R24, R82)

Both statements follow from one fact: an operation run on a state whose DIAG is `d` with the pulse bits so far set ends in
the state it ends in anyway, with DIAG `d` with the pulse bits of its end set. -/

/-- The state with DIAG the value `d` with the bits of the command's pulse so far set. -/
def withDiagBase (d : BitVec 2) (s : State) : State := { s with diag := d ||| s.out.diagPulse }

theorem diag_withDiagBase (d : BitVec 2) (k : DiagCode) (s : State) :
    diag k (withDiagBase d s) = withDiagBase d (diag k s) := by
  simp only [diag, withDiagBase, raiseBit, BitVec.or_assoc]

theorem render_withDiagBase (d : BitVec 2) (y : Line) (s : State) :
    render y (withDiagBase d s) = withDiagBase d (render y s) := by
  cases halg : displayAlgorithm (displayMode s.cfg) with
  | none => rw [render_of_none y halg, render_of_none y (s := withDiagBase d s) halg, diag_withDiagBase]
  | some alg => rw [render_of_some y halg, render_of_some y (s := withDiagBase d s) halg]; rfl

theorem present_withDiagBase (d : BitVec 2) (s : State) : present (withDiagBase d s) = withDiagBase d (present s) := by
  cases hsink : s.sinkOk with
  | true => rw [present_of_ok hsink, present_of_ok (s := withDiagBase d s) hsink]; rfl
  | false =>
    rw [present_of_fail hsink, present_of_fail (s := withDiagBase d s) hsink, ← diag_withDiagBase]; rfl

theorem serviceHBlank_withDiagBase (d : BitVec 2) (y : Line) (s : State) :
    serviceHBlank y (withDiagBase d s) = withDiagBase d (serviceHBlank y s) := by
  have hrefresh : refresh (withDiagBase d s) = withDiagBase d (refresh s) := rfl
  have hcfg : (withDiagBase d s).cfg = s.cfg := rfl
  rw [serviceHBlank_eq, serviceHBlank_eq, hrefresh, hcfg, render_withDiagBase]
  split <;> rfl

theorem service_withDiagBase (d : BitVec 2) (e : PhaseEvent) (s : State) :
    service e (withDiagBase d s) = withDiagBase d (service e s) := by
  cases e with
  | enterDraw y => rfl
  | enterHBlank y => exact serviceHBlank_withDiagBase d y s
  | enterVBlank y => exact present_withDiagBase d s

theorem advance_withDiagBase (d : BitVec 2) (s : State) : advance (withDiagBase d s) = withDiagBase d (advance s) := by
  by_cases hmode : newMode s = s.mode
  · rw [advance_of_same hmode, advance_of_same (s := withDiagBase d s) hmode]; rfl
  · rw [advance_of_entry hmode, advance_of_entry (s := withDiagBase d s) hmode]
    exact service_withDiagBase d _ (emit _ { tick s with mode := newMode s })

/-- A command begins with no pulse bit set. -/
theorem beginCommand_diag_eq (d : BitVec 2) (s : State) :
    beginCommand { s with diag := d } = withDiagBase d (beginCommand s) := by
  simp [withDiagBase, beginCommand, Out.none]

/-- A command other than RESET run with another DIAG ends in the same state, with that DIAG and the pulse bits set. -/
theorem effect_with_diag {i : Instr} (hreset : i ≠ .reset) (d : BitVec 2) (s : State) :
    effect i { s with diag := d } = withDiagBase d (effect i s) := by
  cases i with
  | reset => exact absurd rfl hreset
  | advance => simp only [effect, beginCommand_diag_eq, advance_withDiagBase]
  | render y => simp only [effect, beginCommand_diag_eq, render_withDiagBase]
  | present => simp only [effect, beginCommand_diag_eq, present_withDiagBase]
  | palwr _ _ | cfgwr _ _ | refresh | linecopy _ | linefill _ => simp only [effect, beginCommand_diag_eq]; rfl

/-- Settles O49: `effect_with_diag` with the DIAG the state already has. -/
theorem diagnosticBitsAreSticky : Obligations.DiagnosticBitsAreSticky := by
  intro i s t hexec hreset
  obtain ⟨-, rfl⟩ := (exec_next_iff i s t).mp hexec
  exact congrArg State.diag (effect_with_diag hreset s.diag s)

/-- Settles O50: RESET writes DIAG whatever it was, every other command ends in the same state but for DIAG. -/
theorem diagIsNeverRead : Obligations.DiagIsNeverRead := by
  intro i s t d hexec
  obtain ⟨hwf, rfl⟩ := (exec_next_iff i s t).mp hexec
  refine ⟨_, exec_of_wellFormed hwf _, ?_⟩
  by_cases hreset : i = .reset
  · subst hreset; rfl
  · rw [effect_with_diag hreset]; rfl

/-! ### What a command can leave in the output record (R33) -/

/-- The output records each command can end with. -/
inductive CanOutput : Instr → Out → Prop where
  | nothing (i : Instr) (hi : i ≠ .present) : CanOutput i Out.none
  | rendered (y : Line) (p : BitVec 2) (hp : p = 0b00#2 ∨ p = 0b01#2) : CanOutput (.render y) ⟨none, p, none⟩
  | presented (p : BitVec 2) (fb : FrameBuffer) (hp : p = 0b00#2 ∨ p = 0b10#2) : CanOutput .present ⟨none, p, some fb⟩
  | enteredDraw (y : Line) : CanOutput .advance ⟨some (.enterDraw y), 0b00#2, none⟩
  | enteredHBlank (y : Line) (p : BitVec 2) (hp : p = 0b00#2 ∨ p = 0b01#2) :
      CanOutput .advance ⟨some (.enterHBlank y), p, none⟩
  | enteredVBlank (y : Line) (p : BitVec 2) (fb : FrameBuffer) (hp : p = 0b00#2 ∨ p = 0b10#2) :
      CanOutput .advance ⟨some (.enterVBlank y), p, some fb⟩

theorem serviceHBlank_out (y : Line) (s : State) : (serviceHBlank y s).out = (render y (refresh s)).out := by
  rw [serviceHBlank_eq]
  split <;> rfl

theorem render_out_cases (y : Line) {s : State} (hpulse : s.out.diagPulse = 0#2) :
    ∃ p, (p = 0b00#2 ∨ p = 0b01#2) ∧ (render y s).out = ⟨s.out.event, p, s.out.frame⟩ := by
  obtain h | h := render_out y s
  · exact ⟨0b00#2, .inl rfl, by rw [h, ← hpulse]⟩
  · exact ⟨0b01#2, .inr rfl, by simp [h, hpulse, raiseBit, DiagCode.bit]⟩

theorem present_out_cases {s : State} (hpulse : s.out.diagPulse = 0#2) :
    ∃ p, (p = 0b00#2 ∨ p = 0b10#2) ∧ (present s).out = ⟨s.out.event, p, some s.fb⟩ := by
  cases hsink : s.sinkOk with
  | true => exact ⟨0b00#2, .inl rfl, by simp [present_of_ok hsink, hpulse]⟩
  | false => exact ⟨0b10#2, .inr rfl, by simp [present_of_fail hsink, hpulse, raiseBit, DiagCode.bit]⟩

/-- The output record of a service, begun with the event and nothing else in it. -/
theorem service_out_canOutput {e : PhaseEvent} {s : State} (hout : s.out = ⟨some e, 0#2, none⟩) :
    CanOutput .advance (service e s).out := by
  cases e with
  | enterDraw y =>
    rw [service, hout]
    exact .enteredDraw y
  | enterHBlank y =>
    obtain ⟨p, hp, h⟩ := render_out_cases y (s := refresh s) (by rw [refresh_out, hout])
    rw [service, serviceHBlank_out, h, refresh_out, hout]
    exact .enteredHBlank y p hp
  | enterVBlank y =>
    obtain ⟨p, hp, h⟩ := present_out_cases (s := s) (by rw [hout])
    rw [service, h, hout]
    exact .enteredVBlank y p _ hp

theorem advance_out_canOutput {s : State} (hout : s.out = Out.none) : CanOutput .advance (advance s).out := by
  by_cases hmode : newMode s = s.mode
  · rw [advance_of_same hmode, tick_out, hout]
    exact .nothing _ (by simp)
  · rw [advance_of_entry hmode]
    exact service_out_canOutput (by simp [hout, Out.none])

theorem effect_canOutput (i : Instr) (s : State) : CanOutput i (effect i s).out := by
  cases i with
  | advance => exact advance_out_canOutput rfl
  | render y =>
    obtain ⟨p, hp, h⟩ := render_out_cases y (s := beginCommand s) rfl
    rw [effect, h]
    exact .rendered y p hp
  | present =>
    obtain ⟨p, hp, h⟩ := present_out_cases (s := beginCommand s) rfl
    rw [effect, h]
    exact .presented p _ hp
  | reset | palwr _ _ | cfgwr _ _ | refresh | linecopy _ | linefill _ => exact .nothing _ (by simp)

/-- Settles O47: by the cases of the output record the command ends with. -/
theorem outputsComeFromTheirCommands : Obligations.OutputsComeFromTheirCommands := by
  intro i s t hexec
  obtain ⟨-, rfl⟩ := (exec_next_iff i s t).mp hexec
  have hcan := effect_canOutput i s
  generalize (effect i s).out = o at hcan ⊢
  cases hcan with
  | nothing _ => simp [Out.none]
  | rendered y p hp => obtain rfl | rfl := hp <;> simp
  | presented p fb hp => obtain rfl | rfl := hp <;> simp
  | enteredDraw y => simp
  | enteredHBlank y p hp => obtain rfl | rfl := hp <;> simp
  | enteredVBlank y p fb hp => obtain rfl | rfl := hp <;> simp

/-! ### The tile/map memory (R32 (b), `20_memory.md` R45) -/

/-- An address below every listed one is not listed. -/
theorem memByte_of_lt {m : Memory} {a : Addr} (h : ∀ c ∈ m, a.toNat < c.1) : memByte m a = unlistedByte := by
  induction m with
  | nil => rfl
  | cons c m ih =>
    obtain ⟨hc, hm⟩ := List.forall_mem_cons.mp h
    rw [memByte, if_neg (Nat.ne_of_gt hc), ih hm]

/-- Reading where a byte is put in front of a memory that does not list its address, in the canonical form's way. -/
theorem memByte_put {m : Memory} {a : Addr} (ha : memByte m a = unlistedByte) (b : Addr) (v : Byte) :
    memByte (if v = unlistedByte then m else (a.toNat, v) :: m) b = if b = a then v else memByte m b := by
  by_cases hb : b = a
  · subst hb
    split
    · next hv => rw [ha, if_pos rfl, hv]
    · simp [memByte]
  · have hne : a.toNat ≠ b.toNat := fun h => hb (BitVec.eq_of_toNat_eq h).symm
    split <;> simp [memByte, hne]

/-- Reading after one write. -/
theorem memByte_memWrite {m : Memory} (h : Memory.wf m) (a b : Addr) (v : Byte) :
    memByte (memWrite m a v) b = if b = a then v else memByte m b := by
  induction m with
  | nil => exact memByte_put rfl b v
  | cons c m ih =>
    obtain ⟨hlt, -, -, hm⟩ := (wf_cons_iff c m).mp h
    rw [memWrite]
    split
    · next hbelow =>
      refine memByte_put (memByte_of_lt fun d hd => ?_) b v
      obtain rfl | hd := List.mem_cons.mp hd
      · exact hbelow
      · exact hbelow.trans (hlt d hd)
    · split
      · next hhead =>
        rw [memByte_put (memByte_of_lt fun d hd => hhead ▸ hlt d hd) b v, memByte, ← hhead]
        split
        · rfl
        · next hb => rw [if_neg fun h => hb (BitVec.eq_of_toNat_eq h).symm]
      · next hhead =>
        rw [memByte, ih hm, memByte]
        by_cases hb : b = a
        · subst hb
          rw [if_neg (Ne.symm hhead), if_pos rfl, if_pos rfl]
        · rw [if_neg hb, if_neg hb]

theorem memWrites_append_singleton (m : Memory) (ws : List (Addr × Byte)) (w : Addr × Byte) :
    memWrites m (ws ++ [w]) = memWrite (memWrites m ws) w.1 w.2 := List.foldl_append

/-- Reading after a list of writes: the last one to the address. -/
theorem memByte_memWrites {m : Memory} (h : Memory.wf m) (ws : List (Addr × Byte)) (b : Addr) :
    memByte (memWrites m ws) b =
      ((ws.reverse.find? fun w => decide (w.1 = b)).map Prod.snd).getD (memByte m b) := by
  induction ws using List.reverseRecOn with
  | nil => rfl
  | append_singleton ws w ih =>
    rw [memWrites_append_singleton, memByte_memWrite (memWrites_wf ws h), List.reverse_concat, List.find?_cons]
    by_cases hw : w.1 = b
    · simp [hw]
    · simp [hw, Ne.symm hw, ih]

/-- In a canonical memory the listed cells are those whose byte reads as other than `unlistedByte`. -/
theorem mem_iff_memByte {m : Memory} (h : Memory.wf m) (a : Addr) {v : Byte} (hv : v ≠ unlistedByte) :
    (a.toNat, v) ∈ m ↔ memByte m a = v := by
  induction m with
  | nil => simpa [memByte] using hv.symm
  | cons c m ih =>
    obtain ⟨hlt, -, -, hm⟩ := (wf_cons_iff c m).mp h
    rw [memByte, List.mem_cons, ih hm]
    split
    · next hc =>
      have hrest : memByte m a = unlistedByte := memByte_of_lt fun d hd => hc ▸ hlt d hd
      rw [hrest, ← hc]
      simp [hv.symm, Prod.ext_iff, eq_comm]
    · next hc => simp [Prod.ext_iff, Ne.symm hc]

theorem mem_of_memByte_eq {m m' : Memory} (h : Memory.wf m) (h' : Memory.wf m')
    (hbytes : ∀ a, memByte m a = memByte m' a) {c : Host.Cell} (hc : c ∈ m) : c ∈ m' := by
  obtain ⟨hlt, hv⟩ := h.2 c hc
  have hcell : c = ((BitVec.ofNat 32 c.1).toNat, c.2) := by rw [BitVec.toNat_ofNat, Nat.mod_eq_of_lt hlt]
  rw [hcell] at hc ⊢
  rwa [mem_iff_memByte h' _ hv, ← hbytes, ← mem_iff_memByte h _ hv]

/-- Two canonical memories with the same bytes list the same cells in the same order. -/
theorem eq_of_memByte_eq {m m' : Memory} (h : Memory.wf m) (h' : Memory.wf m')
    (hbytes : ∀ a, memByte m a = memByte m' a) : m = m' := by
  have hirrefl : Std.Irrefl fun c d : Host.Cell => c.1 < d.1 := ⟨fun c => Nat.lt_irrefl c.1⟩
  have hantisymm : Std.Antisymm fun c d : Host.Cell => c.1 < d.1 := ⟨fun _ _ hcd hdc => absurd hcd (Nat.lt_asymm hdc)⟩
  exact h.1.eq_of_mem_iff h'.1 fun c =>
    ⟨mem_of_memByte_eq h h' hbytes, mem_of_memByte_eq h' h fun a => (hbytes a).symm⟩

/-- Settles O54: reading after one write, after a list of writes, and the uniqueness of the canonical form. -/
theorem vramWritesAreReadBack : Obligations.VramWritesAreReadBack := by
  refine ⟨fun m a b v h => memByte_memWrite h a b v, fun m ws b h => ?_, fun m m' h h' => eq_of_memByte_eq h h'⟩
  rw [memByte_memWrites h]
  cases ws.reverse.find? fun w => decide (w.1 = b) <;> rfl

end Sys2Proof.Machine
end

section
/-!
Proofs for `20_memory.md`: the order of the frame buffer (R44), the two-byte VRAM read (R41, R45), the palette at an
HBlank entry (R49), and the owners of the state (R54).
-/

namespace Sys2Proof.Machine

/-! ### The order of the frame buffer (R44) -/

theorem entry_of_fbIndexA (fb : FrameBuffer) {k : Fin 98304} {y : Fin 192} {x : Fin 256}
    (hk : k.val = fbIndexA y.val x) : fb.entry k = fb.screenA[y][x] := by
  unfold fbIndexA at hk
  have hscreen : k.val < 49152 := by omega
  have hrow : k.val / 256 = y.val := by omega
  have hcol : k.val % 256 = x.val := by omega
  simp [FrameBuffer.entry, hscreen, hrow, hcol]

theorem entry_of_fbIndexB (fb : FrameBuffer) {k : Fin 98304} {y : Fin 192} {x : Fin 256}
    (hk : k.val = fbIndexB y.val x) : fb.entry k = fb.screenB[y][x] := by
  unfold fbIndexB at hk
  have hscreen : ¬ k.val < 49152 := by omega
  have hrow : (k.val - 49152) / 256 = y.val := by omega
  have hcol : (k.val - 49152) % 256 = x.val := by omega
  simp [FrameBuffer.entry, hscreen, hrow, hcol]

/-- Screen A's region is the first 49152 entries. -/
theorem exists_fbIndexA_iff (k : Fin 98304) :
    (∃ (y : Fin 192) (x : Fin 256), k.val = fbIndexA y.val x) ↔ k.val < 49152 := by
  unfold fbIndexA
  constructor
  · rintro ⟨y, x, hk⟩
    omega
  · intro hk
    exact ⟨⟨k.val / 256, by omega⟩, ⟨k.val % 256, by omega⟩, (Nat.div_add_mod' k.val 256).symm⟩

/-- Screen B's region is the rest. -/
theorem exists_fbIndexB_iff (k : Fin 98304) :
    (∃ (y : Fin 192) (x : Fin 256), k.val = fbIndexB y.val x) ↔ 49152 ≤ k.val := by
  unfold fbIndexB
  constructor
  · rintro ⟨y, x, hk⟩
    omega
  · intro hk
    exact ⟨⟨(k.val - 49152) / 256, by omega⟩, ⟨(k.val - 49152) % 256, by omega⟩, by simp only; omega⟩

/-- Settles O42: the entry of each index, and the two regions as the indices below 49152 and the rest. -/
theorem frameBufferLayoutIsRowMajor : Obligations.FrameBufferLayoutIsRowMajor := by
  intro fb k
  refine ⟨fun y x hk => entry_of_fbIndexA fb hk, fun y x hk => entry_of_fbIndexB fb hk, ?_⟩
  rw [exists_fbIndexA_iff, exists_fbIndexB_iff, Nat.not_le]

/-! ### The two-byte VRAM read (R41, R45) -/

/-- The next address as the number R41 gives it. -/
theorem ofNat_toNat_succ_mod (a : Addr) : BitVec.ofNat 32 ((a.toNat + 1) % 2 ^ 32) = a + 1#32 := by
  apply BitVec.eq_of_toNat_eq
  rw [BitVec.toNat_ofNat, Nat.mod_mod, BitVec.toNat_add, BitVec.toNat_ofNat]

/-- Settles O53: the read appends the byte at the next address above the byte at the address. -/
theorem vramReadIsLittleEndian : Obligations.VramReadIsLittleEndian := by
  intro m a
  rw [ofNat_toNat_succ_mod, vramRead2, toNat_append_eq_add, vramRead1, vramRead1]
  omega

/-! ### The palette at an HBlank entry (R49) -/

theorem enterEvent_eq_enterHBlank_iff (m : Mode) (y y' : Line) :
    enterEvent m y = .enterHBlank y' ↔ m = .hblank ∧ y = y' := by
  cases m <;> simp [enterEvent]

/-- An ADVANCE that emits EnterHBlank ends with that event's service, begun after the tick. -/
theorem advance_eq_serviceHBlank {s : State} {y : Line} (hsilent : s.out.event = none)
    (hevent : (advance s).out.event = some (.enterHBlank y)) :
    advance s = serviceHBlank y (emit (.enterHBlank y) { tick s with mode := .hblank }) := by
  by_cases hmode : newMode s = s.mode
  · simp [advance_out_event, hmode, hsilent] at hevent
  · rw [advance_of_entry hmode] at hevent ⊢
    rw [enterMode_out_event, Option.some_inj, enterEvent_eq_enterHBlank_iff] at hevent
    obtain ⟨hhblank, rfl⟩ := hevent
    rw [hhblank]
    rfl

/-- Under the palette invariant a refreshed entry is current whether it was dirty or clean. -/
theorem PaletteOk.refreshedDerived_current {s : State} (h : PaletteOk s) (i : Fin 256) :
    (refreshedDerived s.raw s.derived s.dirty)[i] = expand s.raw[i] := by
  rw [Fin.getElem_fin, getElem_refreshedDerived]
  split
  · rfl
  · next hclean => exact h i (Bool.eq_false_of_not_eq_true hclean)

/-- One state meets both hypotheses of O32: every entry is dirty, and the next cycle ends the Draw of line 0. -/
theorem exists_paletteOk_entering_hblank :
    ∃ s : State, PaletteOk s ∧ (effect .advance s).out.event = some (.enterHBlank 0#9) := by
  refine ⟨{ State.reset with cycleCounter := 1535#20, dirty := Vector.replicate 256 true }, ?_, by decide +kernel⟩
  intro i hclean
  simp at hclean

/-- Settles O32: the service of the event refreshes the arrays the ADVANCE began with. -/
theorem hBlankEntryMakesPaletteCurrent : Obligations.HBlankEntryMakesPaletteCurrent := by
  intro s t y hpalette hexec hevent i
  obtain ⟨-, rfl⟩ := (exec_next_iff .advance s t).mp hexec
  rw [effect, advance_eq_serviceHBlank rfl hevent, serviceHBlank_derived, serviceHBlank_dirty, serviceHBlank_raw]
  exact ⟨hpalette.refreshedDerived_current i, getElem_clearDirty i.val i.isLt, rfl⟩

/-! ### The owners of the state (R54)

`effect_cfg` says it of the configuration registers. -/

theorem effect_raw {i : Instr} (hreset : i ≠ .reset) (hpalwr : ∀ k v, i ≠ .palwr k v) (s : State) :
    (effect i s).raw = s.raw := by
  cases i with
  | reset => exact absurd rfl hreset
  | palwr k v => exact absurd rfl (hpalwr k v)
  | advance => exact advance_raw _
  | render y => exact render_raw y _
  | present => exact present_raw _
  | cfgwr _ _ | refresh | linecopy _ | linefill _ => rfl

theorem effect_derived {i : Instr} (hreset : i ≠ .reset) (hrefresh : i ≠ .refresh) (hadvance : i ≠ .advance)
    (s : State) : (effect i s).derived = s.derived := by
  cases i with
  | reset => exact absurd rfl hreset
  | refresh => exact absurd rfl hrefresh
  | advance => exact absurd rfl hadvance
  | render y => exact render_derived y _
  | present => exact present_derived _
  | palwr _ _ | cfgwr _ _ | linecopy _ | linefill _ => rfl

theorem effect_lineBuffers {i : Instr} (hadvance : i ≠ .advance) (hrender : ∀ y, i ≠ .render y) (s : State) :
    (effect i s).lineA = s.lineA ∧ (effect i s).lineB = s.lineB := by
  cases i with
  | advance => exact absurd rfl hadvance
  | render y => exact absurd rfl (hrender y)
  | present => exact ⟨present_lineA _, present_lineB _⟩
  | reset | palwr _ _ | cfgwr _ _ | refresh | linecopy _ | linefill _ => exact ⟨rfl, rfl⟩

theorem effect_fb {i : Instr} (hreset : i ≠ .reset) (hadvance : i ≠ .advance) (hlinecopy : ∀ y, i ≠ .linecopy y)
    (hlinefill : ∀ y, i ≠ .linefill y) (s : State) : (effect i s).fb = s.fb := by
  cases i with
  | reset => exact absurd rfl hreset
  | advance => exact absurd rfl hadvance
  | linecopy y => exact absurd rfl (hlinecopy y)
  | linefill y => exact absurd rfl (hlinefill y)
  | render y => exact render_fb y _
  | present => exact present_fb _
  | palwr _ _ | cfgwr _ _ | refresh => rfl

@[simp] theorem effect_sinkOk (i : Instr) (s : State) : (effect i s).sinkOk = s.sinkOk := by
  cases i <;> simp [effect]

@[simp] theorem effect_stream (i : Instr) (s : State) : (effect i s).stream = s.stream := by
  cases i <;> simp [effect]

/-- Settles O51: for each kind of state, a command that is none of its owners keeps it. -/
theorem stateIsWrittenByItsOwners : Obligations.StateIsWrittenByItsOwners := by
  intro i s t hexec
  obtain ⟨-, rfl⟩ := (exec_next_iff i s t).mp hexec
  refine ⟨?cfg, ?raw, ?derived, ?lineBuffers, ?fb, effect_thresholds i s, effect_sinkOk i s, effect_stream i s⟩ <;>
    intro hchanged <;> by_contra! hother
  case cfg => exact hchanged (effect_cfg hother.1 hother.2 s)
  case raw => exact hchanged (effect_raw hother.1 hother.2 s)
  case derived =>
    obtain ⟨hreset, hrefresh, hadvance⟩ := hother
    exact hchanged (effect_derived hreset hrefresh hadvance s)
  case lineBuffers =>
    obtain ⟨hA, hB⟩ := effect_lineBuffers hother.1 hother.2 s
    exact hchanged.elim (absurd hA) (absurd hB)
  case fb =>
    obtain ⟨hreset, hadvance, hlinecopy, hlinefill⟩ := hother
    exact hchanged (effect_fb hreset hadvance hlinecopy hlinefill s)

end Sys2Proof.Machine
end

section
/-!
Proofs for `30_encoding.md`: the decoder and the encoder are each other's inverse (R70 to R72), the match and mask table
(R88), the number of a word (R70 to R72, `10_state.md` R18), the reserved words (R83), and the port codes (R73, R74).
-/

namespace Sys2Proof.Machine

/-! ### An operand in the low bits of a field (R72)

The decoder, the table and R83 say "the bits above the operand are zero" in three ways: a high slice is zero, the field
under a mask is zero, the field's number is small. -/

theorem eq_zero_iff_toNat {N : Nat} (v : BitVec N) : v = 0#N ↔ v.toNat = 0 := by
  rw [← BitVec.toNat_inj, BitVec.toNat_ofNat, Nat.zero_mod]

theorem extractLsb'_high_eq_zero_iff {N n k : Nat} (hN : N = n + k) (v : BitVec N) :
    v.extractLsb' n k = 0#k ↔ v.toNat < 2 ^ n := by
  have hdiv : v.toNat / 2 ^ n < 2 ^ k := Nat.div_lt_of_lt_mul (by rw [← pow_add, ← hN]; exact v.isLt)
  rw [eq_zero_iff_toNat, toNat_extract, Nat.mod_eq_of_lt hdiv, Nat.div_eq_zero_iff_lt (Nat.two_pow_pos n)]

/-- The mask of the bits from `n` up. -/
def highMask (N n : Nat) : BitVec N := BitVec.allOnes N <<< n

theorem and_highMask_eq_zero_iff {N n : Nat} (v : BitVec N) : v &&& highMask N n = 0#N ↔ v.toNat < 2 ^ n := by
  have hle : v.toNat / 2 ^ n * 2 ^ n < 2 ^ N := lt_of_le_of_lt (Nat.div_mul_le_self _ _) v.isLt
  rw [highMask, ← BitVec.shiftLeft_ushiftRight, eq_zero_iff_toNat, BitVec.toNat_shiftLeft, BitVec.toNat_ushiftRight,
    Nat.shiftRight_eq_div_pow, Nat.shiftLeft_eq, Nat.mod_eq_of_lt hle, Nat.mul_eq_zero,
    or_iff_left (Nat.two_pow_pos n).ne', Nat.div_eq_zero_iff_lt (Nat.two_pow_pos n)]

/-- A field holds exactly the operand `x`. -/
theorem eq_setWidth_iff {N n : Nat} (hle : n ≤ N) (v : BitVec N) (x : BitVec n) :
    v = x.setWidth N ↔ v.toNat < 2 ^ n ∧ x = v.extractLsb' 0 n := by
  rw [← BitVec.toNat_inj, BitVec.toNat_setWidth_of_le hle, ← BitVec.toNat_inj, toNat_extract, pow_zero, Nat.div_one]
  constructor
  · intro h
    exact ⟨h ▸ x.isLt, by rw [h, Nat.mod_eq_of_lt x.isLt]⟩
  · rintro ⟨hlt, h⟩
    rw [h, Nat.mod_eq_of_lt hlt]

/-! ### A word is its four fields (R70) -/

theorem commandWord_eq_iff (op : BitVec 4) (a : BitVec 12) (d : BitVec 32) (w : CommandWord) :
    commandWord op a d = w ↔ w.op = op ∧ w.a = a ∧ w.z = 0#16 ∧ w.d = d := by
  constructor
  · rintro rfl
    exact ⟨op_commandWord .., a_commandWord .., z_commandWord .., d_commandWord ..⟩
  · rintro ⟨rfl, rfl, hz, rfl⟩
    exact eq_commandWord w hz

/-! ### The decoder and the encoder (R70 to R72) -/

theorem decodeOp_encode {i : Instr} (hwf : i.wellFormed = true) : decodeOp (encode i) = .ok i := by
  have hop : (encode i).op = i.opcode := op_commandWord ..
  have ha : (encode i).a = i.fieldA := a_commandWord ..
  have hd : (encode i).d = i.fieldD := d_commandWord ..
  unfold decodeOp
  rw [hop]
  cases i with
  | advance | reset | refresh | present => exact (decodeBare_ok_iff ..).mpr ⟨ha, hd, rfl⟩
  | palwr k v =>
    obtain ⟨hahigh, hk⟩ := (eq_setWidth_iff (by omega) _ k).mp ha
    obtain ⟨hdhigh, hv⟩ := (eq_setWidth_iff (by omega) _ v).mp hd
    refine (decodePalwr_ok_iff ..).mpr ⟨?_, ?_, by rw [← hk, ← hv]⟩
    · rwa [extractLsb'_high_eq_zero_iff rfl]
    · rwa [extractLsb'_high_eq_zero_iff rfl]
  | cfgwr r v => exact (decodeCfgwr_ok_iff ..).mpr ⟨r, by rw [ha]; exact cfgRegAt_index r, by rw [hd]; rfl⟩
  | render y | linecopy y | linefill y =>
    obtain ⟨hhigh, hy⟩ := (eq_setWidth_iff (by omega) _ y).mp ha
    refine (decodeLine_ok_iff ..).mpr ⟨?_, hd, ?_, by rw [← hy]⟩
    · rwa [extractLsb'_high_eq_zero_iff rfl]
    · rw [← hy]; exact of_decide_eq_true hwf

/-- Settles O1: the word's fields are the instruction's own, and its operation code selects the part of the decoder that
reads its operands back. -/
theorem decodeOfEncode : Obligations.DecodeOfEncode := fun i hwf =>
  (decode_ok_iff (encode i) i).mpr ⟨z_commandWord .., decodeOp_encode hwf⟩

theorem fields_of_decodeLine {mk : Line → Instr} {limit : Nat} {w : CommandWord} {i : Instr}
    (h : decodeLine mk limit w = .ok i) :
    ∃ y : Line, i = mk y ∧ w.a = y.setWidth 12 ∧ w.d = 0#32 ∧ y.toNat ≤ limit := by
  obtain ⟨hhigh, hd, hlimit, hi⟩ := (decodeLine_ok_iff ..).mp h
  rw [extractLsb'_high_eq_zero_iff rfl] at hhigh
  exact ⟨_, hi, (eq_setWidth_iff (by omega) _ _).mpr ⟨hhigh, rfl⟩, hd, hlimit⟩

theorem fields_of_decodeOp {w : CommandWord} {i : Instr} (h : decodeOp w = .ok i) :
    w.op = i.opcode ∧ w.a = i.fieldA ∧ w.d = i.fieldD ∧ i.wellFormed = true := by
  unfold decodeOp at h
  split at h <;> rename_i hop
  case h_1 | h_2 | h_5 | h_9 =>
    obtain ⟨ha, hd, rfl⟩ := (decodeBare_ok_iff ..).mp h
    exact ⟨BitVec.eq_of_toNat_eq hop, ha, hd, rfl⟩
  case h_3 =>
    obtain ⟨ha, hd, rfl⟩ := (decodePalwr_ok_iff ..).mp h
    rw [extractLsb'_high_eq_zero_iff rfl] at ha hd
    exact ⟨BitVec.eq_of_toNat_eq hop, (eq_setWidth_iff (by omega) _ _).mpr ⟨ha, rfl⟩,
      (eq_setWidth_iff (by omega) _ _).mpr ⟨hd, rfl⟩, rfl⟩
  case h_4 =>
    obtain ⟨r, hr, rfl⟩ := (decodeCfgwr_ok_iff ..).mp h
    exact ⟨BitVec.eq_of_toNat_eq hop, (index_of_cfgRegAt hr).symm, rfl, rfl⟩
  case h_6 | h_7 | h_8 =>
    obtain ⟨y, rfl, ha, hd, hlimit⟩ := fields_of_decodeLine h
    exact ⟨BitVec.eq_of_toNat_eq hop, ha, hd, decide_eq_true hlimit⟩
  case h_10 => cases h

/-- Settles O2: the fields of an accepted word are those of the instruction, and a word is its fields. -/
theorem encodeOfDecode : Obligations.EncodeOfDecode := by
  intro w i h
  obtain ⟨hz, h⟩ := (decode_ok_iff w i).mp h
  obtain ⟨hop, ha, hd, hwf⟩ := fields_of_decodeOp h
  exact ⟨(commandWord_eq_iff ..).mpr ⟨hop, ha, hz, hd⟩, hwf⟩

/-- The decoder accepts exactly the words of the well-formed instructions. -/
theorem decode_ok_iff_encode (w : CommandWord) (i : Instr) :
    decode w = .ok i ↔ encode i = w ∧ i.wellFormed = true := by
  constructor
  · exact encodeOfDecode w i
  · rintro ⟨rfl, hwf⟩
    exact decodeOfEncode i hwf

/-! ### The match and mask table (R88) -/

theorem op_and (w m : CommandWord) : (w &&& m).op = w.op &&& m.op := BitVec.extractLsb'_and
theorem a_and (w m : CommandWord) : (w &&& m).a = w.a &&& m.a := BitVec.extractLsb'_and
theorem z_and (w m : CommandWord) : (w &&& m).z = w.z &&& m.z := BitVec.extractLsb'_and
theorem d_and (w m : CommandWord) : (w &&& m).d = w.d &&& m.d := BitVec.extractLsb'_and

/-- The masks of R88: `op` and `z` whole, `a` from bit `n` up and `d` from bit `k` up. -/
structure IsOperandMask (m : CommandWord) (n k : Nat) : Prop where
  op : m.op = BitVec.allOnes 4
  a : m.a = highMask 12 n
  z : m.z = BitVec.allOnes 16
  d : m.d = highMask 32 k

/-- A word holds the operands `x` and `y` exactly if it matches under the mask that leaves their bits out. -/
theorem commandWord_eq_iff_and_mask {m : CommandWord} {n k : Nat} (hm : IsOperandMask m n k) (hn : n ≤ 12) (hk : k ≤ 32)
    (op : BitVec 4) (x : BitVec n) (y : BitVec k) (w : CommandWord) :
    commandWord op (x.setWidth 12) (y.setWidth 32) = w ↔
      w &&& m = commandWord op 0#12 0#32 ∧ x = w.extractLsb' 48 n ∧ y = w.extractLsb' 0 k := by
  have hx : w.a.extractLsb' 0 n = w.extractLsb' 48 n := by
    rw [← BitVec.setWidth_eq_extractLsb' hn, CommandWord.a, BitVec.setWidth_extractLsb'_of_le hn]
  have hy : w.d.extractLsb' 0 k = w.extractLsb' 0 k := by
    rw [← BitVec.setWidth_eq_extractLsb' hk, CommandWord.d, BitVec.setWidth_extractLsb'_of_le hk]
  rw [eq_comm (a := w &&& m), commandWord_eq_iff, commandWord_eq_iff, op_and, a_and, z_and, d_and, hm.op, hm.a, hm.z,
    hm.d, BitVec.and_allOnes, BitVec.and_allOnes, and_highMask_eq_zero_iff, and_highMask_eq_zero_iff,
    eq_setWidth_iff hn, eq_setWidth_iff hk, hx, hy]
  tauto

theorem decode_palwr_iff (w : CommandWord) (k : BitVec 8) (v : RawColour) :
    decode w = .ok (.palwr k v) ↔
      w &&& 0xFF00FFFFFFFF0000#64 = 0x3000000000000000#64 ∧ k = w.extractLsb' 48 8 ∧ v = w.extractLsb' 0 16 := by
  have hmask : IsOperandMask 0xFF00FFFFFFFF0000#64 8 16 := ⟨by decide, by decide, by decide, by decide⟩
  rw [decode_ok_iff_encode, Instr.wellFormed, and_iff_left rfl]
  exact commandWord_eq_iff_and_mask hmask (by omega) (by omega) 0x3#4 k v w

theorem decode_cfgwr_iff (w : CommandWord) (r : CfgReg) (v : BitVec 32) :
    decode w = .ok (.cfgwr r v) ↔
      w &&& 0xF000FFFF00000000#64 = 0x4000000000000000#64 ∧ r.index = w.extractLsb' 48 12 ∧ v = w.extractLsb' 0 32 := by
  have hmask : IsOperandMask 0xF000FFFF00000000#64 12 32 := ⟨by decide, by decide, by decide, by decide⟩
  rw [decode_ok_iff_encode, Instr.wellFormed, and_iff_left rfl]
  have hword := commandWord_eq_iff_and_mask hmask (by omega) (by omega) 0x4#4 r.index v w
  rwa [BitVec.setWidth_eq, BitVec.setWidth_eq] at hword

/-- RENDER, LINECOPY and LINEFILL: `mk` is the operation, `op` its code and `limit` its last line. -/
theorem decode_line_iff {mk : Line → Instr} {op : BitVec 4} {limit : Nat}
    (hencode : ∀ y, encode (mk y) = commandWord op (y.setWidth 12) 0#32)
    (hwf : ∀ y, (mk y).wellFormed = decide (y.toNat ≤ limit)) (w : CommandWord) (y : Line) :
    decode w = .ok (mk y) ↔
      w &&& 0xFE00FFFFFFFFFFFF#64 = commandWord op 0#12 0#32 ∧ y = w.extractLsb' 48 9 ∧ y.toNat ≤ limit := by
  have hmask : IsOperandMask 0xFE00FFFFFFFFFFFF#64 9 0 := ⟨by decide, by decide, by decide, by decide⟩
  have hword := commandWord_eq_iff_and_mask hmask (by omega) (by omega) op y 0#0 w
  rw [decode_ok_iff_encode, hencode, hwf, decide_eq_true_iff, ← and_assoc]
  exact and_congr_left' (hword.trans (by simp [Subsingleton.elim _ 0#0]))

/-- The value constraints R88 adds to the match, by mnemonic (R72, `10_state.md` R18). -/
def ValueConstraints (w : CommandWord) (m : String) : Prop :=
  (m = "CFGWR" → DefinedIndex (w.extractLsb' 48 12).toNat) ∧
  (m = "RENDER" → (w.extractLsb' 48 9).toNat ≤ 262) ∧
  (m = "LINECOPY" ∨ m = "LINEFILL" → (w.extractLsb' 48 9).toNat ≤ 191)

/-- `w` spells the operation of a row of R88. -/
def RowSpells (row : OpcodeRow) (w : CommandWord) : Prop :=
  w &&& row.mask = row.pattern ∧ ValueConstraints w row.mnemonic

theorem decode_bare_iff_rowSpells {i : Instr} (hwf : i.wellFormed = true)
    (hconstraints : ∀ w, ValueConstraints w i.mnemonic) (w : CommandWord) :
    decode w = .ok i ↔ RowSpells ⟨i.mnemonic, encode i, 0xFFFFFFFFFFFFFFFF#64⟩ w := by
  have hmask : w &&& 0xFFFFFFFFFFFFFFFF#64 = w := BitVec.and_allOnes
  rw [decode_ok_iff_encode, RowSpells, hmask, eq_comm]
  simp [hwf, hconstraints]

theorem exists_decode_palwr_iff (w : CommandWord) :
    (∃ k v, decode w = .ok (.palwr k v)) ↔
      RowSpells ⟨"PALWR", 0x3000000000000000#64, 0xFF00FFFFFFFF0000#64⟩ w := by
  simp [decode_palwr_iff, RowSpells, ValueConstraints]

theorem exists_index_eq_iff (a : BitVec 12) : (∃ r : CfgReg, r.index = a) ↔ DefinedIndex a.toNat := by
  rw [DefinedIndex, ← cfgRegAt_isSome_iff, Option.isSome_iff_exists]
  constructor
  · rintro ⟨r, rfl⟩
    exact ⟨r, cfgRegAt_index r⟩
  · rintro ⟨r, hr⟩
    exact ⟨r, index_of_cfgRegAt hr⟩

theorem exists_decode_cfgwr_iff (w : CommandWord) :
    (∃ r v, decode w = .ok (.cfgwr r v)) ↔
      RowSpells ⟨"CFGWR", 0x4000000000000000#64, 0xF000FFFF00000000#64⟩ w := by
  simp [decode_cfgwr_iff, RowSpells, ValueConstraints, exists_index_eq_iff, -BitVec.extractLsb'_toNat]

theorem exists_decode_line_iff {mk : Line → Instr} {op : BitVec 4} {limit : Nat} {m : String}
    (hencode : ∀ y, encode (mk y) = commandWord op (y.setWidth 12) 0#32)
    (hwf : ∀ y, (mk y).wellFormed = decide (y.toNat ≤ limit))
    (hconstraints : ∀ w, ValueConstraints w m ↔ (w.extractLsb' 48 9).toNat ≤ limit) (w : CommandWord) :
    (∃ y, decode w = .ok (mk y)) ↔ RowSpells ⟨m, commandWord op 0#12 0#32, 0xFE00FFFFFFFFFFFF#64⟩ w := by
  simp [decode_line_iff hencode hwf, RowSpells, hconstraints, -BitVec.extractLsb'_toNat]

theorem exists_instr_iff {p : Instr → Prop} :
    (∃ i, p i) ↔ p .advance ∨ p .reset ∨ (∃ k v, p (.palwr k v)) ∨ (∃ r v, p (.cfgwr r v)) ∨ p .refresh ∨
      (∃ y, p (.render y)) ∨ (∃ y, p (.linecopy y)) ∨ (∃ y, p (.linefill y)) ∨ p .present := by
  constructor
  · rintro ⟨i, hi⟩
    cases i <;> grind
  · grind

/-- An operation is spelled exactly as its row of R88 says: one disjunct per mnemonic. -/
theorem exists_decode_iff_rowSpells (w : CommandWord) (m : String) :
    (∃ i, decode w = .ok i ∧ i.mnemonic = m) ↔ ∃ row ∈ opcodeTable, row.mnemonic = m ∧ RowSpells row w := by
  have hadvance := decode_bare_iff_rowSpells (i := .advance) rfl (by simp [ValueConstraints, Instr.mnemonic]) w
  have hreset := decode_bare_iff_rowSpells (i := .reset) rfl (by simp [ValueConstraints, Instr.mnemonic]) w
  have hpalwr := exists_decode_palwr_iff w
  have hcfgwr := exists_decode_cfgwr_iff w
  have hrefresh := decode_bare_iff_rowSpells (i := .refresh) rfl (by simp [ValueConstraints, Instr.mnemonic]) w
  have hrender := exists_decode_line_iff (mk := .render) (m := "RENDER") (limit := 262) (fun _ => rfl) (fun _ => rfl)
    (by simp [ValueConstraints]) w
  have hlinecopy := exists_decode_line_iff (mk := .linecopy) (m := "LINECOPY") (limit := 191) (fun _ => rfl)
    (fun _ => rfl) (by simp [ValueConstraints]) w
  have hlinefill := exists_decode_line_iff (mk := .linefill) (m := "LINEFILL") (limit := 191) (fun _ => rfl)
    (fun _ => rfl) (by simp [ValueConstraints]) w
  have hpresent := decode_bare_iff_rowSpells (i := .present) rfl (by simp [ValueConstraints, Instr.mnemonic]) w
  simp only [exists_instr_iff, Instr.mnemonic, exists_and_right, opcodeTable, List.mem_cons, List.not_mem_nil, or_false,
    exists_eq_or_imp, exists_eq_left, and_comm (a := _ = m)]
  rw [hadvance, hreset, hpalwr, hcfgwr, hrefresh, hrender, hlinecopy, hlinefill, hpresent]
  rfl

/-- Settles O3: the constraints of a row are those of its mnemonic. -/
theorem decodeFollowsMatchMask : Obligations.DecodeFollowsMatchMask := by
  intro w m
  rw [exists_decode_iff_rowSpells]
  refine exists_congr fun row => and_congr_right fun _ => and_congr_right ?_
  rintro rfl
  rfl

/-- Settles O4: each word is the command's own. -/
theorem sampleWordsDecode : Obligations.SampleWordsDecode := by
  unfold Obligations.SampleWordsDecode
  simp only [decode_ok_iff_encode]
  decide

/-! ### The number of a word (R70 to R72, `10_state.md` R18) -/

theorem encode_toNat (i : Instr) :
    (encode i).toNat = i.opcode.toNat * 2 ^ 60 + i.fieldA.toNat * 2 ^ 48 + i.fieldD.toNat := commandWord_toNat ..

theorem layerRegIndex_toNat {k : Nat} (hk : k < 5) (l : Fin 4) :
    (layerRegIndex k l).toNat = 0x010 + k + 0x10 * l.val := by
  rw [layerRegIndex, BitVec.toNat_ofNat]
  omega

/-- Settles O55: the number is that of the three fields, and a register's index is its `a`. -/
theorem encodedWordPlacesOperands : Obligations.EncodedWordPlacesOperands := by
  intro i
  rw [encode_toNat]
  cases i with
  | advance | reset | refresh | present => rfl
  | palwr _ _ | render _ | linecopy _ | linefill _ =>
    simp [Instr.opcode, Instr.fieldA, Instr.fieldD, BitVec.toNat_setWidth_of_le, -BitVec.toNat_setWidth]
  | cfgwr r v => cases r <;> simp [Instr.opcode, Instr.fieldA, Instr.fieldD, CfgReg.index, layerRegIndex_toNat]

/-! ### Reserved words (R83)

What each part of the decoder accepts, as R83 says it: by the numbers of the fields. -/

theorem exists_decodeBare_ok_iff (i : Instr) (w : CommandWord) :
    (∃ j, decodeBare i w = .ok j) ↔ w.a.toNat = 0 ∧ w.d.toNat = 0 := by
  simp [decodeBare_ok_iff, eq_zero_iff_toNat]

theorem exists_decodePalwr_ok_iff (w : CommandWord) :
    (∃ j, decodePalwr w = .ok j) ↔ w.a.toNat < 256 ∧ w.d.toNat < 65536 := by
  simp [decodePalwr_ok_iff, extractLsb'_high_eq_zero_iff]

theorem exists_decodeCfgwr_ok_iff (w : CommandWord) : (∃ j, decodeCfgwr w = .ok j) ↔ DefinedIndex w.a.toNat := by
  rw [DefinedIndex, ← cfgRegAt_isSome_iff, Option.isSome_iff_exists]
  simp [decodeCfgwr_ok_iff]

theorem exists_decodeLine_ok_iff (mk : Line → Instr) (limit : Nat) (w : CommandWord) :
    (∃ j, decodeLine mk limit w = .ok j) ↔ w.a.toNat < 512 ∧ w.d.toNat = 0 ∧ w.a.toNat % 512 ≤ limit := by
  simp [decodeLine_ok_iff, extractLsb'_high_eq_zero_iff, eq_zero_iff_toNat w.d]

/-- R83 reserves exactly the words the decoder rejects: one case per operation code. -/
theorem not_reservedWord_iff (w : CommandWord) : ¬ ReservedWord w ↔ ∃ i, decode w = .ok i := by
  simp only [decode_ok_iff, exists_and_left, ReservedWord, ← op_toNat, ← a_toNat, ← z_toNat, ← d_toNat,
    eq_zero_iff_toNat]
  unfold decodeOp
  split <;> rename_i hop
  case h_1 | h_2 | h_5 | h_9 => simp [hop, exists_decodeBare_ok_iff]
  case h_3 => simp [hop, exists_decodePalwr_ok_iff]
  case h_4 => simp [hop, exists_decodeCfgwr_ok_iff]
  case h_6 | h_7 | h_8 => simp [hop, exists_decodeLine_ok_iff, and_assoc]
  case h_10 =>
    have hreserved : w.op.toNat = 0 ∨ 0xA ≤ w.op.toNat := by grind
    simp [hreserved]

theorem step_of_decode_error {s : State} {c : StreamItem} {rest : List StreamItem} {why : Reserved}
    (hstream : s.stream = c :: rest) (hdecode : decode c.word = .error why) :
    step s = .refused (.reservedCommand why) := by
  simp only [step, hstream, hdecode]

/-- Settles O6: a reserved word decodes to a reason, any other to a well-formed command, which completes. -/
theorem reservedWordsExactlyRefused : Obligations.ReservedWordsExactlyRefused := by
  intro s c rest hstream
  constructor
  · intro hreserved
    cases hdecode : decode c.word with
    | ok i => exact absurd hreserved ((not_reservedWord_iff c.word).mpr ⟨i, hdecode⟩)
    | error why => exact ⟨why, step_of_decode_error hstream hdecode⟩
  · intro haccepted
    obtain ⟨i, hdecode⟩ := (not_reservedWord_iff c.word).mp haccepted
    obtain ⟨-, hwf⟩ := encodeOfDecode c.word i hdecode
    refine ⟨effect i (acceptItem c rest s), ?_, effect_stream i _⟩
    rw [step_of_decode_ok hstream hdecode, exec_of_wellFormed hwf]

/-- Settles O9: the line fails the limit each of the three commands tests. -/
theorem outOfRangeLinesRefused : Obligations.OutOfRangeLinesRefused := by
  intro y s
  exact ⟨fun hy => if_neg hy.not_ge, fun hy => if_neg hy.not_ge, fun hy => if_neg hy.not_ge⟩

/-! ### The port codes (R73, R74) -/

/-- The event of entering a mode has the mode's code plus one. -/
theorem eventCode_enterEvent (m : Mode) (y : Line) :
    (eventCode (some (enterEvent m y))).toNat = (modeCode m).toNat + 1 := by
  cases m <;> rfl

theorem eventLine_enterEvent (m : Mode) (y : Line) : eventLine (some (enterEvent m y)) = y := by
  cases m <;> rfl

theorem advance_ports_of_entry {s : State} (h : newMode s ≠ s.mode) :
    (evtO (advance s)).toNat = (modeO (advance s)).toNat + 1 ∧ evtLineO (advance s) = lineO (advance s) := by
  simp [evtO, modeO, evtLineO, lineO, advance_out_event, h, eventCode_enterEvent, eventLine_enterEvent]

theorem advance_ports_of_same {s : State} (hsilent : s.out.event = none) (h : newMode s = s.mode) :
    evtO (advance s) = 0b00#2 ∧ evtLineO (advance s) = 0#9 := by
  simp [evtO, evtLineO, advance_out_event, h, hsilent, eventCode, eventLine]

/-- Settles O48: the codes by their tables, and an ADVANCE by whether the new counter value has another mode. -/
theorem eventPortFollowsModePort : Obligations.EventPortFollowsModePort := by
  refine ⟨fun s => ⟨?mode, ?event, ?noLine, ?line⟩, fun s t hexec => ?advance⟩
  case mode =>
    rw [modeO]
    cases s.mode <;> rfl
  case event =>
    rw [evtO]
    cases s.out.event with
    | none => rfl
    | some e => cases e <;> rfl
  case noLine =>
    intro hnone
    rw [evtLineO, hnone, eventLine]
  case line =>
    rintro y (h | h | h) <;> rw [evtLineO, h, eventLine]
  case advance =>
    obtain ⟨-, rfl⟩ := (exec_next_iff .advance s t).mp hexec
    rw [effect, advance_mode]
    exact ⟨advance_ports_of_entry (s := beginCommand s), advance_ports_of_same (s := beginCommand s) rfl⟩

end Sys2Proof.Machine
end

section
/-!
Proofs for `40_timing.md`: ADVANCE and its service, the boundary table, and what a whole frame of ADVANCE commands does.
-/

namespace Sys2Proof.Machine

/-! ### TimingState after one ADVANCE (R101 to R104) -/

@[simp] theorem effect_advance_cycleCounter (s : State) :
    (effect .advance s).cycleCounter = nextCounter s.thresholds s.cycleCounter := by
  simp [effect]

@[simp] theorem effect_advance_scanlineIndex (s : State) :
    (effect .advance s).scanlineIndex =
      nextScanline s.thresholds (nextCounter s.thresholds s.cycleCounter) s.scanlineIndex := by
  simp [effect]

@[simp] theorem newMode_beginCommand (s : State) : newMode (beginCommand s) = newMode s := rfl

@[simp] theorem effect_advance_mode (s : State) : (effect .advance s).mode = newMode s := by
  simp [effect]

/-- An ADVANCE emits exactly when the new counter value has another mode, the event of entering it (R103, R104). -/
theorem effect_advance_event (s : State) :
    (effect .advance s).out.event =
      if newMode s = s.mode then none else some (enterEvent (newMode s) (effect .advance s).scanlineIndex) := by
  rw [effect_advance_scanlineIndex]
  exact advance_out_event (beginCommand s)

/-- R102 for the line number as a number. -/
theorem nextScanline_toNat_eq (p : Thresholds) (c : BitVec 20) (y : Line) :
    (nextScanline p c y).toNat = if c.toNat % p.cycLine = 0 then (y.toNat + 1) % 263 else y.toNat := by
  unfold nextScanline
  split
  · rw [BitVec.toNat_ofNat]
    omega
  · rfl

/-- Settles O14: the counter, the line and the mode by their rules, the event by `effect_advance_event`. -/
theorem advanceUpdatesTimingState : Obligations.AdvanceUpdatesTimingState := by
  intro s hcounter _
  refine ⟨effect .advance s, exec_of_wellFormed rfl s, ?_, ?_, ?_, ?_⟩
  · rw [effect_advance_cycleCounter, nextCounter_toNat _ _ hcounter, cycFrame_eq]
  · rw [effect_advance_scanlineIndex, effect_advance_cycleCounter, nextScanline_toNat_eq]
  · rw [effect_advance_mode, effect_advance_cycleCounter, newMode, classify, cycActive_eq]
  · rw [effect_advance_event, effect_advance_mode]

/-- Settles O22: the frame of every other command. -/
theorem otherCommandsKeepTimingState : Obligations.OtherCommandsKeepTimingState := by
  intro i s t hexec hadvance hreset
  obtain ⟨-, rfl⟩ := (exec_next_iff i s t).mp hexec
  exact effect_timingState hadvance hreset s

/-! ### The boundary table (R107, R108) -/

/-- The event of an ADVANCE whose new counter value is `c`, as the table of R108 gives it. -/
def eventAt (p : Thresholds) (c : Nat) : Option PhaseEvent :=
  let q := c / p.cycLine
  let r := c % p.cycLine
  let y := BitVec.ofNat 9 q
  if q < 192 then (if r = 0 then some (.enterDraw y) else if r = p.cycDraw then some (.enterHBlank y) else none)
  else if q = 192 ∧ r = 0 then some (.enterVBlank y) else none

/-- The table on a counter value split into scanline period `q` and offset `r`. -/
theorem eventAt_split (p : Thresholds) (q : Nat) {r : Nat} (hr : r < p.cycLine) :
    eventAt p (q * p.cycLine + r) =
      if q < 192 then
        (if r = 0 then some (.enterDraw (BitVec.ofNat 9 q))
         else if r = p.cycDraw then some (.enterHBlank (BitVec.ofNat 9 q)) else none)
      else if q = 192 ∧ r = 0 then some (.enterVBlank (BitVec.ofNat 9 q)) else none := by
  have hdiv : (q * p.cycLine + r) / p.cycLine = q := by
    rw [Nat.mul_comm, Nat.mul_add_div (cycLine_pos p), Nat.div_eq_of_lt hr, Nat.add_zero]
  have hmod : (q * p.cycLine + r) % p.cycLine = r := by
    rw [Nat.mul_comm, Nat.mul_add_mod, Nat.mod_eq_of_lt hr]
  simp only [eventAt, hdiv, hmod]

/-- The table on the first cycle of scanline period `q`. -/
theorem eventAt_lineStart (p : Thresholds) (q : Nat) :
    eventAt p (q * p.cycLine) =
      if q < 192 then some (.enterDraw (BitVec.ofNat 9 q))
      else if q = 192 then some (.enterVBlank (BitVec.ofNat 9 q)) else none := by
  simpa using eventAt_split p q (cycLine_pos p)

/-- The new counter value alone decides the event (R108). -/
theorem effect_advance_event_eq_eventAt {s : State} (h : TimingOk s) :
    (effect .advance s).out.event = eventAt s.thresholds (effect .advance s).cycleCounter.toNat := by
  obtain ⟨q, r, -, -, -, -, hmode, hcounter, hline, hnew⟩ := cycle_cases h
  have hdrawLt := s.thresholds.draw_lt_line
  have hline' := congrArg (BitVec.ofNat 9) hline
  rw [BitVec.ofNat_toNat, BitVec.setWidth_eq] at hline'
  rw [effect_advance_event, effect_advance_cycleCounter, effect_advance_scanlineIndex, hcounter, hline', hnew, hmode]
  by_cases hin : r + 1 < s.thresholds.cycLine
  · simp only [hin, if_true]
    rw [eventAt_split _ _ hin]
    by_cases hactive : q < 192
    · simp only [hactive, if_true]
      rcases lt_trichotomy (r + 1) s.thresholds.cycDraw with hlt | heq | hgt
      · simp [hlt, hlt.ne, Nat.lt_of_succ_lt hlt]
      · simp [← heq, enterEvent]
      · simp [hgt.not_gt, hgt.ne', Nat.not_lt_of_ge (Nat.le_of_lt_succ hgt)]
    · simp [hactive]
  · simp only [hin, if_false, show ¬ r < s.thresholds.cycDraw by omega]
    by_cases hwrap : q = 262
    · subst hwrap
      simpa [enterEvent] using (eventAt_lineStart s.thresholds 0).symm
    · rw [if_neg hwrap, if_neg hwrap, eventAt_lineStart]
      rcases lt_trichotomy q 191 with hlt | rfl | hgt
      · simp [hlt, enterEvent, show q < 192 by omega]
      · simp [enterEvent]
      · simp [hwrap, hgt.not_gt, show ¬ q < 192 by omega, show ¬ q + 1 < 192 by omega, show q + 1 ≠ 192 by omega]

/-- A counter value as scanline period and offset. -/
theorem exists_split (p : Thresholds) (c : Nat) : ∃ q r, r < p.cycLine ∧ c = q * p.cycLine + r :=
  ⟨c / p.cycLine, c % p.cycLine, Nat.mod_lt c (cycLine_pos p), (Nat.div_add_mod' c p.cycLine).symm⟩

theorem split_eq_lineStart_iff (p : Thresholds) {q r b : Nat} (hr : r < p.cycLine) :
    q * p.cycLine + r = b * p.cycLine ↔ q = b ∧ r = 0 := by
  simpa using split_eq_iff p hr (cycLine_pos p) (a := q) (b := b)

theorem eventAt_eq_enterHBlank_iff (p : Thresholds) (c : Nat) (y : Line) :
    eventAt p c = some (.enterHBlank y) ↔ y.toNat < 192 ∧ c = y.toNat * p.cycLine + p.cycDraw := by
  obtain ⟨q, r, hr, rfl⟩ := exists_split p c
  have hpos := p.draw_pos
  rw [eventAt_split p q hr, split_eq_iff p hr p.draw_lt_line]
  split_ifs <;> simp [← BitVec.toNat_inj] <;> omega

theorem eventAt_eq_enterDraw_iff (p : Thresholds) (c : Nat) (y : Line) :
    eventAt p c = some (.enterDraw y) ↔ y.toNat < 192 ∧ c = y.toNat * p.cycLine := by
  obtain ⟨q, r, hr, rfl⟩ := exists_split p c
  rw [eventAt_split p q hr, split_eq_lineStart_iff p hr]
  split_ifs <;> simp [← BitVec.toNat_inj] <;> omega

theorem eventAt_eq_enterVBlank_iff (p : Thresholds) (c : Nat) (y : Line) :
    eventAt p c = some (.enterVBlank y) ↔ y.toNat = 192 ∧ c = 192 * p.cycLine := by
  obtain ⟨q, r, hr, rfl⟩ := exists_split p c
  rw [eventAt_split p q hr, split_eq_lineStart_iff p hr]
  split_ifs <;> simp [← BitVec.toNat_inj] <;> omega

/-- Settles O18: by the table of `eventAt`. -/
theorem eventBoundariesFollowTable : Obligations.EventBoundariesFollowTable := by
  intro s t htiming hexec y
  obtain ⟨-, rfl⟩ := (exec_next_iff .advance s t).mp hexec
  rw [effect_advance_event_eq_eventAt htiming]
  exact ⟨eventAt_eq_enterHBlank_iff .., eventAt_eq_enterDraw_iff .., eventAt_eq_enterVBlank_iff ..⟩

/-- Settles O19: the cases of one cycle. -/
theorem phaseOrderIsCyclic : Obligations.PhaseOrderIsCyclic := by
  intro s t htiming hexec hchange
  obtain ⟨-, rfl⟩ := (exec_next_iff .advance s t).mp hexec
  obtain ⟨q, r, -, -, -, hline, hmode, -, hnext, hnew⟩ := cycle_cases htiming
  have hdrawLt := s.thresholds.draw_lt_line
  rw [effect_advance_mode] at hchange
  rw [effect_advance_mode, effect_advance_scanlineIndex, ← BitVec.toNat_inj, hnext, hline, hnew, hmode]
  rw [hnew, hmode] at hchange
  clear hnext hnew hmode
  by_cases hin : r + 1 < s.thresholds.cycLine
  · simp only [hin, if_true] at hchange ⊢
    by_cases hactive : q < 192
    · simp only [hactive, if_true] at hchange ⊢
      have hdraw : r < s.thresholds.cycDraw := by
        by_contra hge
        simp [hge, show ¬ r + 1 < s.thresholds.cycDraw by omega] at hchange
      have hend : ¬ r + 1 < s.thresholds.cycDraw := fun hlt => by simp [hdraw, hlt] at hchange
      simp only [hdraw, hend, if_true, if_false]
      exact .inl ⟨trivial, trivial, trivial, by omega⟩
    · simp [hactive] at hchange
  · simp only [hin, if_false, show ¬ r < s.thresholds.cycDraw by omega] at hchange ⊢
    by_cases hwrap : q = 262
    · subst hwrap
      simp
    · rcases lt_trichotomy q 191 with hlt | rfl | hgt
      · simp [hlt, hwrap, show q < 192 by omega, show q ≤ 190 by omega]
      · simp
      · simp [hwrap, hgt.not_gt, show ¬ q < 192 by omega] at hchange

/-! ### The service inside an ADVANCE (R106, R112) -/

theorem enterEvent_eq_enterDraw_iff (m : Mode) (y y' : Line) :
    enterEvent m y = .enterDraw y' ↔ m = .draw ∧ y = y' := by
  cases m <;> simp [enterEvent]

theorem enterEvent_eq_enterVBlank_iff (m : Mode) (y y' : Line) :
    enterEvent m y = .enterVBlank y' ↔ m = .vblank ∧ y = y' := by
  cases m <;> simp [enterEvent]

/-- TimingState written as an ADVANCE of `s` that enters the mode `m` writes it, before the service. -/
def timingEntered (m : Mode) (s : State) : State :=
  { s with
    cycleCounter := (effect .advance s).cycleCounter
    scanlineIndex := (effect .advance s).scanlineIndex
    mode := m }

/-- What an ADVANCE can do: keep the mode and write counter and line only, or enter another mode, emit its event and
run its service. -/
theorem effect_advance_cases (s : State) :
    ((effect .advance s).out.event = none ∧ effect .advance s = beginCommand (timingEntered s.mode s)) ∨
      ∃ m e, e = enterEvent m (effect .advance s).scanlineIndex ∧ (effect .advance s).out.event = some e ∧
        effect .advance s = service e (emit e (beginCommand (timingEntered m s))) := by
  by_cases hmode : newMode s = s.mode
  · refine .inl ⟨by rw [effect_advance_event, if_pos hmode], ?_⟩
    rw [timingEntered, effect_advance_cycleCounter, effect_advance_scanlineIndex]
    exact advance_of_same (s := beginCommand s) hmode
  · refine .inr ⟨newMode s, _, rfl, by rw [effect_advance_event, if_neg hmode], ?_⟩
    rw [timingEntered, effect_advance_cycleCounter, effect_advance_scanlineIndex]
    exact advance_of_entry (s := beginCommand s) hmode

/-- The emitting case: the event determines the mode entered and the service. -/
theorem effect_advance_of_event {s : State} {e : PhaseEvent} (hevent : (effect .advance s).out.event = some e) :
    ∃ m, e = enterEvent m (effect .advance s).scanlineIndex ∧
      effect .advance s = service e (emit e (beginCommand (timingEntered m s))) := by
  obtain ⟨hnone, -⟩ | ⟨m, e', he, hsome, heffect⟩ := effect_advance_cases s
  · simp [hnone] at hevent
  · rw [hsome, Option.some_inj] at hevent
    exact hevent ▸ ⟨m, he, heffect⟩

/-- Settles O15: without an event ADVANCE is its TimingState update, and the service of EnterDraw is nothing. -/
theorem advanceWithoutServiceWritesTimingOnly : Obligations.AdvanceWithoutServiceWritesTimingOnly := by
  intro s t hexec
  obtain ⟨-, rfl⟩ := (exec_next_iff .advance s t).mp hexec
  refine ⟨fun hnone => ?_, fun y hevent => ?_⟩
  · obtain ⟨-, heffect⟩ | ⟨m, e, -, hsome, -⟩ := effect_advance_cases s
    · exact heffect
    · simp [hnone] at hsome
  · obtain ⟨m, he, heffect⟩ := effect_advance_of_event hevent
    obtain ⟨rfl, -⟩ := (enterEvent_eq_enterDraw_iff _ _ _).mp he.symm
    exact heffect

/-- RENDER inside a service is the command, but for the event and the frame already in the output record. -/
theorem render_eq_beginCommand (y : Line) {s : State} (hpulse : s.out.diagPulse = 0#2) :
    render y s =
      { render y (beginCommand s) with
        out := { s.out with diagPulse := (render y (beginCommand s)).out.diagPulse } } := by
  cases halg : displayAlgorithm (displayMode s.cfg) with
  | none =>
    rw [render_of_none y halg, render_of_none (s := beginCommand s) y halg, diag, hpulse]
    rfl
  | some alg =>
    rw [render_of_some y halg, render_of_some (s := beginCommand s) y halg]
    simp [Out.none, ← hpulse, beginCommand]

/-- PRESENT inside a service is the command, but for the event already in the output record. -/
theorem present_eq_beginCommand {s : State} (hpulse : s.out.diagPulse = 0#2) :
    present s =
      { present (beginCommand s) with out := { (present (beginCommand s)).out with event := s.out.event } } := by
  cases hsink : s.sinkOk with
  | true =>
    rw [present_of_ok hsink, present_of_ok (s := beginCommand s) hsink]
    simp [handOver, beginCommand, Out.none, hpulse]
  | false =>
    rw [present_of_fail hsink, present_of_fail (s := beginCommand s) hsink]
    simp [diag, handOver, beginCommand, Out.none, hpulse]

/-- The service of EnterVBlank, begun with the event and nothing else in the output record. -/
theorem service_enterVBlank_eq (y : Line) (s : State) :
    service (.enterVBlank y) (emit (.enterVBlank y) (beginCommand s)) =
      { present (beginCommand s) with
        out := { (present (beginCommand s)).out with event := some (.enterVBlank y) } } :=
  present_eq_beginCommand rfl

/-- Settles O17: the service of EnterVBlank, PRESENT's own meaning apart. -/
theorem vBlankEntryRunsPresent : Obligations.VBlankEntryRunsPresent := by
  intro s t y hexec hevent
  obtain ⟨-, rfl⟩ := (exec_next_iff .advance s t).mp hexec
  obtain ⟨m, he, heffect⟩ := effect_advance_of_event hevent
  obtain ⟨rfl, hy⟩ := (enterEvent_eq_enterVBlank_iff _ _ _).mp he.symm
  refine ⟨hy.symm, _, rfl, ?_⟩
  rw [service_enterVBlank_eq] at heffect
  exact heffect

/-- The third command of the service of EnterHBlank. -/
def lineTransfer (blank : Bool) (y : Line) : Instr := if blank then .linefill y else .linecopy y

/-- The service of EnterHBlank as the effects of its three commands, but for the output record. -/
theorem service_enterHBlank_eq (y : Line) (s : State) :
    service (.enterHBlank y) (emit (.enterHBlank y) (beginCommand s)) =
      { effect (lineTransfer (forcedBlank s.cfg) y) (effect (.render y) (effect .refresh s)) with
        out := ⟨some (.enterHBlank y), (effect (.render y) (effect .refresh s)).out.diagPulse, none⟩ } := by
  rw [service, serviceHBlank_eq, render_eq_beginCommand y rfl, emit_cfg, beginCommand_cfg]
  cases forcedBlank s.cfg with
  | true | false => rfl

/-- Settles O16: the three commands are well formed on a line of the active region. -/
theorem hBlankEntryRunsServiceCommands : Obligations.HBlankEntryRunsServiceCommands := by
  intro s t y htiming hexec hevent
  obtain ⟨hboundary, -, -⟩ := eventBoundariesFollowTable s t htiming hexec y
  obtain ⟨hactive, -⟩ := hboundary.mp hevent
  have hle : y.toNat ≤ 191 := Nat.le_of_lt_succ hactive
  obtain ⟨-, rfl⟩ := (exec_next_iff .advance s t).mp hexec
  obtain ⟨m, he, heffect⟩ := effect_advance_of_event hevent
  obtain ⟨rfl, hy⟩ := (enterEvent_eq_enterHBlank_iff _ _ _).mp he.symm
  rw [service_enterHBlank_eq] at heffect
  refine ⟨hle, hy.symm, _, _, _, rfl, exec_of_wellFormed ?render _,
    exec_of_wellFormed (i := lineTransfer _ y) ?transfer _, heffect⟩
  case render => exact decide_eq_true (show y.toNat ≤ 262 by omega)
  case transfer =>
    cases forcedBlank s.cfg with
    | true | false => exact decide_eq_true hle

/-! ### Runs of ADVANCE commands -/

/-- The event of the ADVANCE that makes `k` cycles since some moment at which the counter was 0. -/
def eventOfCycle (p : Thresholds) (k : Nat) : Option PhaseEvent := eventAt p (k % p.cycFrame)

/-- The scanline index `k` cycles after some moment at which the counter was 0. -/
def lineOfCycle (p : Thresholds) (k : Nat) : Line := BitVec.ofNat 9 (k % p.cycFrame / p.cycLine)

/-- TimingState `k` cycles after some moment at which the counter was 0, under the thresholds `p`. -/
structure AtCycle (p : Thresholds) (k : Nat) (s : State) : Prop where
  timing : TimingOk s
  thresholds_eq : s.thresholds = p
  counter_eq : s.cycleCounter.toNat = k % p.cycFrame

theorem TimingOk.atCycle {s : State} (h : TimingOk s) : AtCycle s.thresholds s.cycleCounter.toNat s :=
  ⟨h, rfl, (Nat.mod_eq_of_lt h.counter_lt).symm⟩

section
variable {p : Thresholds} {k : Nat} {s : State} (h : AtCycle p k s)
include h

theorem AtCycle.mode_eq : s.mode = classify p (k % p.cycFrame) := by
  rw [h.timing.mode_eq, h.thresholds_eq, h.counter_eq]

theorem AtCycle.scanlineIndex_eq : s.scanlineIndex = lineOfCycle p k := by
  rw [lineOfCycle, ← h.counter_eq, ← h.thresholds_eq, ← h.timing.line_eq, BitVec.ofNat_toNat, BitVec.setWidth_eq]

theorem AtCycle.advance : AtCycle p (k + 1) (effect .advance s) where
  timing := effect_timingOk .advance h.timing
  thresholds_eq := by rw [effect_thresholds, h.thresholds_eq]
  counter_eq := by
    rw [effect_advance_cycleCounter, nextCounter_mod _ _ h.timing.counter_lt, h.counter_eq, h.thresholds_eq,
      Nat.mod_add_mod]

theorem AtCycle.advance_event : (effect .advance s).out.event = eventOfCycle p (k + 1) := by
  rw [effect_advance_event_eq_eventAt h.timing, h.advance.counter_eq, h.thresholds_eq, eventOfCycle]

theorem AtCycle.linesOf_advances (n : Nat) :
    linesOf (advances n) s = (List.range' (k + 1) n).map (lineOfCycle p) := by
  induction n generalizing s k with
  | zero => rfl
  | succ n ih =>
    calc linesOf (advances (n + 1)) s
      _ = (effect .advance s).scanlineIndex :: linesOf (advances n) (effect .advance s) := rfl
      _ = lineOfCycle p (k + 1) :: (List.range' (k + 2) n).map (lineOfCycle p) := by
        rw [h.advance.scanlineIndex_eq, ih h.advance]
      _ = (List.range' (k + 1) (n + 1)).map (lineOfCycle p) := rfl

theorem AtCycle.eventsOf_advances (n : Nat) :
    eventsOf (advances n) s = (List.range' (k + 1) n).filterMap (eventOfCycle p) := by
  induction n generalizing s k with
  | zero => rfl
  | succ n ih =>
    calc eventsOf (advances (n + 1)) s
      _ = (effect .advance s).out.event.toList ++ eventsOf (advances n) (effect .advance s) := rfl
      _ = (eventOfCycle p (k + 1)).toList ++ (List.range' (k + 2) n).filterMap (eventOfCycle p) := by
        rw [h.advance_event, ih h.advance]
      _ = (List.range' (k + 1) (n + 1)).filterMap (eventOfCycle p) := by
        rw [List.range'_succ, List.filterMap_cons]
        cases eventOfCycle p (k + 1) with
        | none | some _ => rfl

/-- A run whose last ADVANCE is its first with an event is silent until then. -/
theorem AtCycle.eventsOf_advances_of_gap {n : Nat} (hn : 0 < n)
    (hsilent : ∀ j, k < j → j < k + n → eventOfCycle p j = none) (hevent : eventOfCycle p (k + n) ≠ none) :
    eventsOf (advances (n - 1)) s = [] ∧ (eventsOf (advances n) s).length = 1 := by
  have hnil : eventsOf (advances (n - 1)) s = [] := by
    rw [h.eventsOf_advances, List.filterMap_eq_nil_iff]
    intro j hj
    rw [List.mem_range'_1] at hj
    exact hsilent j (by omega) (by omega)
  refine ⟨hnil, ?_⟩
  obtain ⟨e, he⟩ := Option.ne_none_iff_exists'.mp hevent
  rw [h.eventsOf_advances] at hnil ⊢
  rw [← Nat.sub_add_cancel hn, List.range'_1_concat, List.filterMap_append, hnil,
    show k + 1 + (n - 1) = k + n by omega, List.filterMap_cons_some he]
  rfl

end

/-! ### The silent cycles after an event (R105) -/

/-- The cycles without an event, by scanline period and offset. -/
theorem eventAt_eq_none_iff (p : Thresholds) (q : Nat) {r : Nat} (hr : r < p.cycLine) :
    eventAt p (q * p.cycLine + r) = none ↔ (q < 192 → r ≠ 0 ∧ r ≠ p.cycDraw) ∧ (q = 192 → r ≠ 0) := by
  rw [eventAt_split p q hr]
  split_ifs <;> simp <;> omega

theorem eventOfCycle_of_lt {p : Thresholds} {k : Nat} (h : k < p.cycFrame) : eventOfCycle p k = eventAt p k := by
  rw [eventOfCycle, Nat.mod_eq_of_lt h]

/-- The cycles of an active line with an event: the first, the end of Draw, and the first of the next line. -/
theorem eventOfCycle_eq_none_iff_of_active (p : Thresholds) {q r : Nat} (hq : q < 192) (hr : r ≤ p.cycLine) :
    eventOfCycle p (q * p.cycLine + r) = none ↔ r ≠ 0 ∧ r ≠ p.cycDraw ∧ r ≠ p.cycLine := by
  have hpos := p.draw_pos
  have hlt := p.draw_lt_line
  have hframe : (q + 2) * p.cycLine ≤ p.cycFrame := Nat.mul_le_mul_right _ (show q + 2 ≤ 263 by omega)
  rw [Nat.add_mul] at hframe
  rw [eventOfCycle_of_lt (by omega)]
  obtain hin | rfl := Nat.lt_or_eq_of_le hr
  · rw [eventAt_eq_none_iff p q hin]
    omega
  · rw [← Nat.add_one_mul, eventAt_lineStart]
    split_ifs with hdraw hvblank
    · simp
    · simp
    · omega

theorem eventOfCycle_of_vblank {p : Thresholds} {k : Nat} (hk : 192 * p.cycLine < k) (hlt : k < 263 * p.cycLine) :
    eventOfCycle p k = none := by
  rw [eventOfCycle_of_lt hlt]
  obtain ⟨q, r, hr, rfl⟩ := exists_split p k
  have hq : 192 ≤ q := by
    by_contra hactive
    have := Nat.mul_le_mul_right p.cycLine (show q + 1 ≤ 192 by omega)
    rw [Nat.add_one_mul] at this
    omega
  rw [eventAt_eq_none_iff p q hr]
  refine ⟨fun hactive => by omega, ?_⟩
  rintro rfl
  omega

theorem eventOfCycle_cycFrame (p : Thresholds) : eventOfCycle p p.cycFrame ≠ none := by
  have hdraw : eventAt p 0 = some (.enterDraw 0#9) := (eventAt_eq_enterDraw_iff p 0 0#9).mpr (by simp)
  rw [eventOfCycle, Nat.mod_self, hdraw]
  exact Option.some_ne_none _

/-- On an active line nothing is emitted between an offset `a` and the next offset `b` that has an event. -/
theorem AtCycle.eventsOf_advances_of_active {p : Thresholds} {q a b : Nat} {s : State}
    (h : AtCycle p (q * p.cycLine + a) s) (hq : q < 192) (hab : a < b) (hb : b = p.cycDraw ∨ b = p.cycLine)
    (hdraw : p.cycDraw ≤ a ∨ b ≤ p.cycDraw) :
    eventsOf (advances (b - a - 1)) s = [] ∧ (eventsOf (advances (b - a)) s).length = 1 := by
  have hpos := p.draw_pos
  have hlt := p.draw_lt_line
  refine h.eventsOf_advances_of_gap (by omega) (fun j hj hjn => ?_) ?_
  · obtain ⟨r, rfl⟩ := Nat.exists_eq_add_of_lt hj
    rw [Nat.add_assoc, Nat.add_assoc, eventOfCycle_eq_none_iff_of_active _ hq (by omega)]
    omega
  · rw [Nat.add_assoc, Nat.add_sub_cancel' hab.le, ne_eq, eventOfCycle_eq_none_iff_of_active _ hq (by omega)]
    omega

/-- Settles O20: the next cycle with an event is at the end of Draw, at the next line, and at the wrap of the frame. -/
theorem eventsAreNotReemitted : Obligations.EventsAreNotReemitted := by
  intro s t htiming hexec y
  obtain ⟨hhblank, hdraw, hvblank⟩ := eventBoundariesFollowTable s t htiming hexec y
  obtain ⟨-, rfl⟩ := (exec_next_iff .advance s t).mp hexec
  have hat := (effect_timingOk .advance htiming).atCycle
  rw [effect_thresholds] at hat
  refine ⟨fun hevent => ?_, fun hevent => ?_, fun hevent => ?_⟩
  · obtain ⟨hy, hcounter⟩ := hdraw.mp hevent
    rw [hcounter, ← Nat.add_zero (y.toNat * _)] at hat
    exact hat.eventsOf_advances_of_active hy s.thresholds.draw_pos (.inl rfl) (.inr le_rfl)
  · obtain ⟨hy, hcounter⟩ := hhblank.mp hevent
    rw [hcounter] at hat
    exact hat.eventsOf_advances_of_active hy s.thresholds.draw_lt_line (.inr rfl) (.inl le_rfl)
  · obtain ⟨-, hcounter⟩ := hvblank.mp hevent
    rw [hcounter] at hat
    refine hat.eventsOf_advances_of_gap (Nat.mul_pos (by decide) (cycLine_pos _))
      (fun j hj hjn => eventOfCycle_of_vblank hj (by omega)) ?_
    rw [← Nat.add_mul]
    exact eventOfCycle_cycFrame _

/-! ### Counting over a frame (R109 to R111) -/

theorem count_congr {P Q : Nat → Prop} [DecidablePred P] [DecidablePred Q] {n : Nat} (h : ∀ k < n, P k ↔ Q k) :
    Nat.count P n = Nat.count Q n := by
  rw [Nat.count_eq_card_filter_range, Nat.count_eq_card_filter_range,
    Finset.filter_congr fun k hk => h k (Finset.mem_range.mp hk)]

/-- The residues of any `n` consecutive numbers are the numbers below `n`. -/
theorem countP_range'_mod (a n : Nat) (Q : Nat → Bool) :
    (List.range' a n).countP (fun k => Q (k % n)) = Nat.count (fun k => Q k = true) n := by
  have hperiodic : Function.Periodic (fun k => Q (k % n) = true) n := (Nat.periodic_mod n).comp (Q · = true)
  calc (List.range' a n).countP (fun k => Q (k % n))
    _ = (Multiset.filter (fun k => Q (k % n) = true) (Multiset.Ico a (a + n))).card := by
      rw [← Multiset.countP_eq_card_filter]
      change _ = Multiset.countP _ (List.range' a (a + n - a) : Multiset Nat)
      simp [Multiset.coe_countP]
    _ = Nat.count (fun k => Q (k % n) = true) n := Nat.filter_multiset_Ico_card_eq_of_periodic a n _ hperiodic
    _ = Nat.count (fun k => Q k = true) n := count_congr fun k hk => by rw [Nat.mod_eq_of_lt hk]

theorem count_eq_one {P : Nat → Prop} [DecidablePred P] {n m : Nat} (hm : m < n) (hP : ∀ k < n, P k ↔ k = m) :
    Nat.count P n = 1 := by
  rw [Nat.count_eq_card_filter_range, Finset.card_eq_one]
  refine ⟨m, Finset.ext fun k => ?_⟩
  rw [Finset.mem_filter, Finset.mem_range, Finset.mem_singleton]
  exact ⟨fun h => (hP k h.1).mp h.2, fun h => ⟨h ▸ hm, (hP k (h ▸ hm)).mpr h⟩⟩

/-- Counting below `m` blocks of `n`, block by block. -/
theorem count_mul (P : Nat → Prop) [DecidablePred P] (m n : Nat) :
    Nat.count P (m * n) = ∑ q ∈ Finset.range m, Nat.count (fun r => P (q * n + r)) n := by
  induction m with
  | zero => simp
  | succ m ih => rw [Nat.add_one_mul, Nat.count_add, Finset.sum_range_succ, ih]

theorem AtCycle.count_events {p : Thresholds} {k : Nat} {s : State} (h : AtCycle p k s) (e : PhaseEvent) :
    (eventsOf (advances p.cycFrame) s).count e = Nat.count (fun c => eventAt p c = some e) p.cycFrame := by
  rw [h.eventsOf_advances, List.count_filterMap]
  simpa [eventOfCycle] using countP_range'_mod (k + 1) p.cycFrame fun c => eventAt p c == some e

theorem AtCycle.length_events {p : Thresholds} {k : Nat} {s : State} (h : AtCycle p k s) :
    (eventsOf (advances p.cycFrame) s).length = Nat.count (fun c => (eventAt p c).isSome) p.cycFrame := by
  rw [h.eventsOf_advances, List.length_filterMap_eq_countP]
  exact countP_range'_mod _ _ fun c => (eventAt p c).isSome

theorem AtCycle.count_lines {p : Thresholds} {k : Nat} {s : State} (h : AtCycle p k s) (y : Line) :
    (linesOf (advances p.cycFrame) s).count y =
      Nat.count (fun c => BitVec.ofNat 9 (c / p.cycLine) = y) p.cycFrame := by
  rw [h.linesOf_advances, List.count, List.countP_map]
  simpa [Function.comp_def, lineOfCycle] using
    countP_range'_mod (k + 1) p.cycFrame fun c => BitVec.ofNat 9 (c / p.cycLine) == y

/-- The cycles of scanline period `q` with an event: two on an active line, one on the first line of VBlank. -/
theorem count_isSome_eventAt (p : Thresholds) (q : Nat) :
    Nat.count (fun r => (eventAt p (q * p.cycLine + r)).isSome) p.cycLine =
      if q < 192 then 2 else if q = 192 then 1 else 0 := by
  have hsome : ∀ r < p.cycLine, (eventAt p (q * p.cycLine + r)).isSome ↔
      (q < 192 ∧ (r = 0 ∨ r = p.cycDraw)) ∨ (q = 192 ∧ r = 0) := fun r hr => by
    rw [Option.isSome_iff_ne_none, ne_eq, eventAt_eq_none_iff p q hr]
    omega
  have hpos := p.draw_pos
  have hlt := p.draw_lt_line
  rw [count_congr hsome]
  split_ifs with hactive hfirst
  · rw [Nat.count_eq_card_filter_range, ← Finset.card_pair hpos.ne]
    congr 1
    ext r
    simp only [Finset.mem_filter, Finset.mem_range, Finset.mem_insert, Finset.mem_singleton]
    omega
  · exact count_eq_one (cycLine_pos p) fun r _ => by omega
  · exact Nat.count_iff_forall_not.mpr fun r _ => by omega

/-- Settles O24: the events of the frame's counter values, all of them by scanline period and each by the table. -/
theorem frameEventCensus : Obligations.FrameEventCensus := by
  intro s htiming
  have hat := htiming.atCycle
  have hdraw := s.thresholds.draw_lt_line
  have hinFrame : ∀ {q}, q ≤ 192 → q * s.thresholds.cycLine + s.thresholds.cycDraw < s.thresholds.cycFrame := by
    intro q hq
    have := Nat.mul_le_mul_right s.thresholds.cycLine hq
    rw [cycFrame_eq]
    omega
  refine ⟨?_, fun y hy => ⟨?_, ?_⟩, ?_⟩
  · rw [hat.length_events, cycFrame_eq, count_mul]
    simp only [count_isSome_eventAt]
    decide +kernel
  · rw [hat.count_events]
    exact count_eq_one (hinFrame hy.le) fun c _ => (eventAt_eq_enterHBlank_iff ..).trans (and_iff_right hy)
  · rw [hat.count_events]
    exact count_eq_one (lt_of_le_of_lt (Nat.le_add_right _ _) (hinFrame hy.le))
      fun c _ => (eventAt_eq_enterDraw_iff ..).trans (and_iff_right hy)
  · rw [hat.count_events]
    exact count_eq_one (lt_of_le_of_lt (Nat.le_add_right _ _) (hinFrame le_rfl))
      fun c _ => (eventAt_eq_enterVBlank_iff ..).trans (and_iff_right rfl)

/-- The cycles of scanline period `q` are those with line number `q`. -/
theorem count_line (p : Thresholds) {q : Nat} (hq : q < 263) (y : Line) :
    Nat.count (fun r => BitVec.ofNat 9 ((q * p.cycLine + r) / p.cycLine) = y) p.cycLine =
      if q = y.toNat then p.cycLine else 0 := by
  have hline : ∀ r < p.cycLine, BitVec.ofNat 9 ((q * p.cycLine + r) / p.cycLine) = y ↔ q = y.toNat := fun r hr => by
    rw [Nat.mul_comm, Nat.mul_add_div (cycLine_pos p), Nat.div_eq_of_lt hr, Nat.add_zero, ← BitVec.toNat_inj,
      BitVec.toNat_ofNat, Nat.mod_eq_of_lt (by omega)]
  rw [count_congr hline]
  split_ifs with h
  · exact Nat.count_of_forall fun _ _ => h
  · exact Nat.count_of_forall_not fun _ _ => h

/-- Settles O25: of the 263 scanline periods the one with the line's number. -/
theorem scanlineCensus : Obligations.ScanlineCensus := by
  intro s y htiming hy
  rw [htiming.atCycle.count_lines, cycFrame_eq, count_mul,
    Finset.sum_congr rfl fun q hq => count_line _ (Finset.mem_range.mp hq) y, Finset.sum_ite_eq',
    if_pos (Finset.mem_range.mpr (by omega))]

/-! ### A frame of any stream (R109) -/

theorem AtCycle.other {p : Thresholds} {k : Nat} {s : State} (h : AtCycle p k s) {i : Instr} (hadvance : i ≠ .advance)
    (hreset : i ≠ .reset) : AtCycle p k (effect i s) where
  timing := effect_timingOk i h.timing
  thresholds_eq := by rw [effect_thresholds, h.thresholds_eq]
  counter_eq := by
    obtain ⟨hcounter, -, -⟩ := effect_timingState hadvance hreset s
    rw [hcounter, h.counter_eq]

/-- Of the commands but RESET an ADVANCE is one cycle, and another none. -/
theorem AtCycle.command {p : Thresholds} {k : Nat} {s : State} (h : AtCycle p k s) {i : Instr} (hreset : i ≠ .reset) :
    AtCycle p (k + if i = .advance then 1 else 0) (effect i s) := by
  split_ifs with hadvance
  · exact hadvance ▸ h.advance
  · exact h.other hadvance hreset

theorem AtCycle.acceptItem {p : Thresholds} {k : Nat} {s : State} (h : AtCycle p k s) (c : StreamItem)
    (rest : List StreamItem) : AtCycle p k (acceptItem c rest s) :=
  ⟨h.timing.congr rfl rfl rfl rfl, h.thresholds_eq, h.counter_eq⟩

theorem run_succ_of_step {n : Nat} {s t : State} (h : step s = .next t) :
    Host.Core.run Sys2Proof.core (n + 1) s = Host.Core.run Sys2Proof.core n t := by
  simp only [Host.Core.run, show Sys2Proof.core.step s = .next t from h]

/-- A run over items without RESET completes, one cycle on for each ADVANCE. -/
theorem run_atCycle {p : Thresholds} {k : Nat} {s : State} {items rest : List StreamItem} (h : AtCycle p k s)
    (hstream : s.stream = items ++ rest) (hitems : ∀ c ∈ items, ∃ i, decode c.word = .ok i ∧ i ≠ .reset) :
    ∃ t, Host.Core.run Sys2Proof.core items.length s = .next t ∧ t.stream = rest ∧
      AtCycle p (k + items.countP StreamItem.isAdvance) t := by
  induction items generalizing s k with
  | nil => exact ⟨s, rfl, hstream, h⟩
  | cons c items ih =>
    obtain ⟨i, hdecode, hreset⟩ := hitems c List.mem_cons_self
    obtain ⟨-, hwf⟩ := (decode_ok_iff_encode c.word i).mp hdecode
    have hstep : step s = .next (effect i (acceptItem c (items ++ rest) s)) := by
      rw [step_of_decode_ok (rest := items ++ rest) hstream hdecode, exec_of_wellFormed hwf]
    obtain ⟨t, hrun, hrest, hat⟩ := ih ((h.acceptItem c (items ++ rest)).command hreset) (by simp)
      fun c' hc' => hitems c' (List.mem_cons_of_mem c hc')
    refine ⟨t, by rw [List.length_cons, run_succ_of_step hstep, hrun], hrest, ?_⟩
    rw [List.countP_cons, Nat.add_comm (items.countP _), ← Nat.add_assoc]
    simpa [StreamItem.isAdvance, hdecode] using hat

/-- Settles O23: CYC_FRAME cycles on, the counter has its value again, and with it the mode and the line. -/
theorem framePeriodReturnsTimingState : Obligations.FramePeriodReturnsTimingState := by
  intro s items rest htiming hstream hitems hcount
  have hat := htiming.atCycle
  obtain ⟨t, hrun, hrest, hat'⟩ := run_atCycle hat hstream hitems
  rw [hcount] at hat'
  refine ⟨t, hrun, hrest, ?_, ?_, ?_⟩
  · rw [← BitVec.toNat_inj, hat'.counter_eq, Nat.add_mod_right, ← hat.counter_eq]
  · rw [hat'.mode_eq, Nat.add_mod_right, ← hat.mode_eq]
  · rw [hat'.scanlineIndex_eq, lineOfCycle, Nat.add_mod_right, hat.scanlineIndex_eq, lineOfCycle]

end Sys2Proof.Machine
end

section
/-!
Proofs for `41_palette.md`: the colour conversion (R120), the palette write (R121), REFRESH (R122), and the two together
(R123).
-/

namespace Sys2Proof.Machine

/-! ### The colour conversion (R120) -/

theorem channel1_toNat (r : RawColour) : (channel1 r).toNat = r.toNat % 32 := by
  rw [channel1, toNat_extract]
  omega

theorem channel2_toNat (r : RawColour) : (channel2 r).toNat = r.toNat / 32 % 32 := toNat_extract ..

theorem channel3_toNat (r : RawColour) : (channel3 r).toNat = r.toNat / 1024 % 32 := toNat_extract ..

/-- The shift loses no bit of a 5-bit channel. -/
theorem expandChannel_toNat (c : BitVec 5) : (expandChannel c).toNat = c.toNat * 8 := by
  have hwidth : (c.setWidth 8).toNat = c.toNat := BitVec.toNat_setWidth_of_le (by decide)
  rw [expandChannel, BitVec.toNat_shiftLeft, hwidth, Nat.shiftLeft_eq]
  omega

/-- Settles O26: the four bytes appended, each channel's the channel times eight. -/
theorem expandShiftsChannels : Obligations.ExpandShiftsChannels := by
  intro r
  simp only [expand, toNat_append_eq_add, expandChannel_toNat, channel1_toNat, channel2_toNat, channel3_toNat,
    BitVec.toNat_ofNat]
  omega

/-! ### The palette write (R121) -/

theorem getElem_effect_palwr_raw (i : BitVec 8) (v : RawColour) (s : State) (j : Nat) (hj : j < 256) :
    (effect (.palwr i v) s).raw[j] = if j = i.toNat then v else s.raw[j] := by
  simp [effect, Vector.getElem_set, eq_comm]

theorem getElem_effect_palwr_dirty (i : BitVec 8) (v : RawColour) (s : State) (j : Nat) (hj : j < 256) :
    (effect (.palwr i v) s).dirty[j] = if j = i.toNat then true else s.dirty[j] := by
  simp [effect, getElem_setDirty, eq_comm]

/-- Settles O27: the two arrays entry by entry; the write and the empty output record are all that `effect` writes. -/
theorem palwrStoresRawAndMarksDirty : Obligations.PalwrStoresRawAndMarksDirty := by
  intro i v s
  exact ⟨effect (.palwr i v) s, exec_of_wellFormed rfl s, fun j => getElem_effect_palwr_raw i v s j j.isLt,
    fun j => getElem_effect_palwr_dirty i v s j j.isLt, rfl⟩

/-! ### REFRESH (R122) -/

theorem getElem_effect_refresh_derived (s : State) (j : Nat) (hj : j < 256) :
    (effect .refresh s).derived[j] = if s.dirty[j] then expand s.raw[j] else s.derived[j] :=
  getElem_refreshedDerived ..

/-- Settles O28: the derived array entry by entry; it, the flags and the empty output record are all that `effect`
writes. -/
theorem refreshRecomputesDirtyEntries : Obligations.RefreshRecomputesDirtyEntries := by
  intro s
  exact ⟨effect .refresh s, exec_of_wellFormed rfl s, fun j => getElem_effect_refresh_derived s j j.isLt,
    fun j => getElem_clearDirty j j.isLt, rfl⟩

/-- Settles O29: the write leaves the entry dirty, so REFRESH expands what it wrote. -/
theorem paletteWriteRefreshRoundTrip : Obligations.PaletteWriteRefreshRoundTrip := by
  intro i v s
  have hraw : (effect (.palwr i v) s).raw[i.toNat]'i.isLt = v := by rw [getElem_effect_palwr_raw, if_pos rfl]
  have hdirty : (effect (.palwr i v) s).dirty[i.toNat]'i.isLt = true := by rw [getElem_effect_palwr_dirty, if_pos rfl]
  refine ⟨effect .refresh (effect (.palwr i v) s), rfl, hraw, ?_, getElem_clearDirty _ i.isLt⟩
  rw [getElem_effect_refresh_derived, if_pos hdirty, hraw]

/-! ### Who sets a dirty flag (R121 (e), `10_state.md` R27) -/

theorem service_dirty_cases (e : PhaseEvent) (s : State) :
    (service e s).dirty = s.dirty ∨ (service e s).dirty = clearDirty := by
  cases e with
  | enterDraw y => exact .inl rfl
  | enterHBlank y => exact .inr (serviceHBlank_dirty y s)
  | enterVBlank y => exact .inl (present_dirty s)

theorem advance_dirty_cases (s : State) : (advance s).dirty = s.dirty ∨ (advance s).dirty = clearDirty := by
  by_cases hmode : newMode s = s.mode
  · rw [advance_of_same hmode]
    exact .inl rfl
  · rw [advance_of_entry hmode]
    exact service_dirty_cases _ (emit _ { tick s with mode := newMode s })

/-- A command other than PALWR keeps every flag or clears every flag. -/
theorem effect_dirty_cases {i : Instr} (hpalwr : ∀ k v, i ≠ .palwr k v) (s : State) :
    (effect i s).dirty = s.dirty ∨ (effect i s).dirty = clearDirty := by
  cases i with
  | palwr k v => exact absurd rfl (hpalwr k v)
  | advance => exact advance_dirty_cases _
  | reset | refresh => exact .inr rfl
  | render y => exact .inl (render_dirty y _)
  | present => exact .inl (present_dirty _)
  | cfgwr _ _ | linecopy _ | linefill _ => exact .inl rfl

/-- Settles O31: a command other than PALWR sets no flag, and PALWR keeps every flag but its own. -/
theorem onlyPalwrSetsDirtyFlags : Obligations.OnlyPalwrSetsDirtyFlags := by
  intro i s t j hexec hclear hset
  obtain ⟨-, rfl⟩ := (exec_next_iff i s t).mp hexec
  by_cases hpalwr : ∃ k v, i = .palwr k v
  · obtain ⟨k, v, rfl⟩ := hpalwr
    refine ⟨k, v, rfl, ?_⟩
    by_contra hother
    rw [Fin.getElem_fin, getElem_effect_palwr_dirty, if_neg hother] at hset
    exact Bool.false_ne_true (hclear.symm.trans hset)
  · push Not at hpalwr
    obtain hkept | hcleared := effect_dirty_cases hpalwr s
    · rw [hkept, hclear] at hset
      contradiction
    · rw [hcleared, Fin.getElem_fin, getElem_clearDirty] at hset
      contradiction

/-! ### A second REFRESH (R123) -/

theorem refreshedDerived_clearDirty (raw : Vector RawColour 256) (derived : Vector Colour 256) :
    refreshedDerived raw derived clearDirty = derived := by
  ext1 j hj
  simp [getElem_refreshedDerived]

/-- With no flag set REFRESH changes nothing. -/
theorem refresh_of_clean {s : State} (hclean : s.dirty = clearDirty) : refresh s = s := by
  rw [refresh, hclean, refreshedDerived_clearDirty, ← hclean]

theorem effect_clean {i : Instr} (hpalwr : ∀ k v, i ≠ .palwr k v) {s : State} (hclean : s.dirty = clearDirty) :
    (effect i s).dirty = clearDirty := by
  obtain hkept | hcleared := effect_dirty_cases hpalwr s
  · rw [hkept, hclean]
  · exact hcleared

theorem execAll_cons_next_iff (i : Instr) (is : List Instr) (s t : State) :
    execAll (i :: is) s = .next t ↔ i.wellFormed = true ∧ execAll is (effect i s) = .next t := by
  rw [execAll]
  cases hexec : exec i s with
  | next u =>
    obtain ⟨hwf, rfl⟩ := (exec_next_iff i s u).mp hexec
    simp [hwf]
  | fault r => cases r
  | refused r =>
    have hwf : i.wellFormed ≠ true := fun h => by simp [exec_of_wellFormed h s] at hexec
    simp [hwf]

/-- What every command of a list keeps holds when the list has completed. -/
theorem execAll_keeps {P : State → Prop} {is : List Instr} {s t : State} (hexec : execAll is s = .next t)
    (hkeeps : ∀ i ∈ is, ∀ u, P u → P (effect i u)) (hs : P s) : P t := by
  induction is generalizing s with
  | nil =>
    cases hexec
    exact hs
  | cons i is ih =>
    obtain ⟨hi, his⟩ := List.forall_mem_cons.mp hkeeps
    obtain ⟨-, hrest⟩ := (execAll_cons_next_iff i is s t).mp hexec
    exact ih hrest his (hi s hs)

/-- Settles O30: the first REFRESH clears every flag, and without a PALWR none is set again. -/
theorem secondRefreshChangesNothing : Obligations.SecondRefreshChangesNothing := by
  intro is s t hothers hexec
  obtain ⟨-, hrest⟩ := (execAll_cons_next_iff .refresh is s t).mp hexec
  have hclean : t.dirty = clearDirty :=
    execAll_keeps (P := fun u => u.dirty = clearDirty) hrest (fun i hi _ hu => effect_clean (hothers i hi).2 hu) rfl
  rw [exec_of_wellFormed rfl, effect, refresh_of_clean (s := beginCommand t) hclean]
  rfl

end Sys2Proof.Machine
end

section
/-!
Proofs for `42_compositor.md`: the order of the layers (R138), the composition of a pixel (R137, R139, R140), RENDER in
supported and unsupported display modes (R135, R136, R150), and the tile sampler (R141 to R147).
-/

namespace Sys2Proof.Machine

/-! ### The order of the layers (R138) -/

/-- Layer `l` comes before layer `m` by (priority, number). -/
def LayerBefore (cfg : CfgRegs) (l m : Fin 4) : Prop :=
  (layerPriority cfg.layers[l]).toNat < (layerPriority cfg.layers[m]).toNat ∨
    layerPriority cfg.layers[l] = layerPriority cfg.layers[m] ∧ l < m

theorem LayerBefore.asymm {cfg : CfgRegs} {l m : Fin 4} (h : LayerBefore cfg l m) : ¬ LayerBefore cfg m l := by
  unfold LayerBefore at h ⊢
  rw [← BitVec.toNat_inj] at h ⊢
  omega

theorem LayerBefore.ne {cfg : CfgRegs} {l m : Fin 4} (h : LayerBefore cfg l m) : l ≠ m := by
  rintro rfl
  exact h.asymm h

theorem mem_four_layers (l : Fin 4) : l ∈ [0, 1, 2, 3] := by
  revert l
  decide

theorem mem_layersOfPriority_iff (cfg : CfgRegs) (p : BitVec 2) (l : Fin 4) :
    l ∈ layersOfPriority cfg p ↔ layerPriority cfg.layers[l] = p := by
  simp only [layersOfPriority, List.mem_filter, mem_four_layers, true_and, beq_iff_eq]

theorem layerOrder_eq_flatMap (cfg : CfgRegs) :
    layerOrder cfg = [0#2, 1#2, 2#2, 3#2].flatMap (layersOfPriority cfg) := by
  simp [layerOrder]

theorem mem_layerOrder (cfg : CfgRegs) (l : Fin 4) : l ∈ layerOrder cfg := by
  have hall : ∀ p : BitVec 2, p ∈ [0#2, 1#2, 2#2, 3#2] := by decide
  rw [layerOrder_eq_flatMap, List.mem_flatMap]
  exact ⟨_, hall _, (mem_layersOfPriority_iff cfg _ l).mpr rfl⟩

/-- The layers of one priority stand in the order of their numbers. -/
theorem layersOfPriority_pairwise (cfg : CfgRegs) (p : BitVec 2) :
    (layersOfPriority cfg p).Pairwise (LayerBefore cfg) := by
  have hnumbers : (layersOfPriority cfg p).Pairwise (· < ·) := List.Pairwise.filter _ (by decide)
  refine hnumbers.imp_of_mem fun hl hm hlt => .inr ⟨?_, hlt⟩
  rw [mem_layersOfPriority_iff] at hl hm
  rw [hl, hm]

theorem layerOrder_pairwise (cfg : CfgRegs) : (layerOrder cfg).Pairwise (LayerBefore cfg) := by
  have hpriorities : [0#2, 1#2, 2#2, 3#2].Pairwise (fun p q => p.toNat < q.toNat) := by decide
  rw [layerOrder_eq_flatMap, List.pairwise_flatMap]
  refine ⟨fun p _ => layersOfPriority_pairwise cfg p, hpriorities.imp fun hpq l hl m hm => .inl ?_⟩
  rw [mem_layersOfPriority_iff] at hl hm
  rwa [hl, hm]

/-- Settles O35: both lists hold every layer once, and the order puts each layer before the later ones. -/
theorem layerOrderSortsByPriority : Obligations.LayerOrderSortsByPriority := by
  intro cfg
  have hnodup : (layerOrder cfg).Nodup := (layerOrder_pairwise cfg).imp LayerBefore.ne
  have hperm : (layerOrder cfg).Perm [0, 1, 2, 3] :=
    (List.perm_ext_iff_of_nodup hnodup (by decide)).mpr fun l => iff_of_true (mem_layerOrder cfg l) (mem_four_layers l)
  exact ⟨hperm, layerOrder_pairwise cfg⟩

/-! ### The colour of a pixel (R137, R139, R140) -/

theorem resolve_eq_none_iff (derived : Vector Colour 256) (s : Sample) :
    resolve derived s = none ↔ s = .transparent := by
  cases s <;> simp [resolve]

theorem layerColour_of_enabled {cfg : CfgRegs} {l : Fin 4} (h : layerEnabled cfg.layers[l] = true)
    (derived : Vector Colour 256) (sample : Fin 4 → Sample) :
    layerColour cfg derived sample l = resolve derived (sample l) := if_pos h

/-- A layer contributes nothing if it is disabled or its sample is transparent. -/
theorem layerColour_eq_none_iff (cfg : CfgRegs) (derived : Vector Colour 256) (sample : Fin 4 → Sample) (l : Fin 4) :
    layerColour cfg derived sample l = none ↔ (layerEnabled cfg.layers[l] = true → sample l = .transparent) := by
  rw [← resolve_eq_none_iff derived]
  unfold layerColour
  split
  · next h => rw [forall_prop_of_true h]
  · next h => exact iff_of_true rfl (absurd · h)

/-- A layer that comes before every other one that contributes gives the pixel its colour. -/
theorem composePixel_of_front {cfg : CfgRegs} {derived : Vector Colour 256} {sample : Fin 4 → Sample} {l : Fin 4}
    {c : Colour} (hcolour : layerColour cfg derived sample l = some c)
    (hfront : ∀ m, m ≠ l → layerColour cfg derived sample m ≠ none → LayerBefore cfg l m) :
    composePixel cfg derived sample = c := by
  obtain ⟨before, after, hsplit⟩ := List.append_of_mem (mem_layerOrder cfg l)
  have hpairwise := layerOrder_pairwise cfg
  rw [hsplit, List.pairwise_append] at hpairwise
  obtain ⟨-, -, hbefore⟩ := hpairwise
  have hnothing : ∀ m ∈ before, layerColour cfg derived sample m = none := by
    intro m hm
    have hml : LayerBefore cfg m l := hbefore m hm l List.mem_cons_self
    by_contra hcontributes
    exact hml.asymm (hfront m hml.ne hcontributes)
  have hfirst : (layerOrder cfg).findSome? (layerColour cfg derived sample) = some c :=
    List.findSome?_eq_some_iff.mpr ⟨before, l, after, hsplit, hcolour, hnothing⟩
  rw [composePixel, hfirst, Option.getD_some]

theorem composePixel_of_none {cfg : CfgRegs} {derived : Vector Colour 256} {sample : Fin 4 → Sample}
    (h : ∀ l, layerColour cfg derived sample l = none) : composePixel cfg derived sample = derived[0] := by
  rw [composePixel, List.findSome?_eq_none_iff.mpr fun l _ => h l, Option.getD_none]

/-- Settles O36: the front layer's colour is its sample resolved; with no layer contributing the backdrop is left. -/
theorem frontLayerWinsElseBackdrop : Obligations.FrontLayerWinsElseBackdrop := by
  intro cfg derived sample
  refine ⟨fun l henabled _ hfront => ?_, fun hnone => ?_⟩
  · have hpixel : ∀ c, resolve derived (sample l) = some c → composePixel cfg derived sample = c := by
      intro c hc
      refine composePixel_of_front ((layerColour_of_enabled henabled _ _).trans hc) fun m hm hcontributes => ?_
      rw [Ne, layerColour_eq_none_iff, Classical.not_imp] at hcontributes
      exact hfront m hm hcontributes.1 hcontributes.2
    exact ⟨fun i hi => hpixel _ (by rw [hi, resolve]), fun r hr => hpixel _ (by rw [hr, resolve])⟩
  · exact composePixel_of_none fun l => (layerColour_eq_none_iff cfg derived sample l).mpr (hnone l)

/-! ### Display modes (R136, `30_encoding.md` R80) -/

/-- The display mode an algorithm belongs to. -/
def DisplayAlgorithm.tag : DisplayAlgorithm → Nat
  | .tile0 => 0
  | .tile1 => 1
  | .extended .mode2 => 2
  | .extended .mode3 => 3
  | .extended .mode4 => 4
  | .extended .mode5 => 5

theorem displayAlgorithm_of_tag {m : BitVec 3} {alg : DisplayAlgorithm} (h : m.toNat = alg.tag) :
    displayAlgorithm m = some alg := by
  rw [displayAlgorithm, h]
  cases alg with
  | tile0 | tile1 => rfl
  | extended e => cases e <;> rfl

theorem displayAlgorithm_eq_none_iff (m : BitVec 3) : displayAlgorithm m = none ↔ 6 ≤ m.toNat := by
  revert m
  decide

theorem exists_displayAlgorithm {m : BitVec 3} (h : m.toNat ≤ 5) : ∃ alg, displayAlgorithm m = some alg := by
  rw [← Option.ne_none_iff_exists', Ne, displayAlgorithm_eq_none_iff]
  omega

/-! ### RENDER (R135, R148 to R150) -/

/-- Settles O37: the samples are those of the algorithm that the display mode selects. -/
theorem renderFillsBothRows : Obligations.RenderFillsBothRows := by
  intro y s hy hmode
  obtain ⟨alg, halg⟩ := exists_displayAlgorithm hmode
  have hselects : ∀ alg' l x, (displayMode s.cfg).toNat = alg'.tag →
      sampleOf alg s.cfg s.vram l x y = sampleOf alg' s.cfg s.vram l x y := by
    intro alg' l x h
    rw [Option.some.inj (halg.symm.trans (displayAlgorithm_of_tag h))]
  refine ⟨fun l x => sampleOf alg s.cfg s.vram l x y, _, execRender_eq hy s, fun l x => ?_, ?_⟩
  · exact ⟨hselects .tile0 l x, hselects .tile1 l x, hselects (.extended .mode2) l x, hselects (.extended .mode3) l x,
      hselects (.extended .mode4) l x, hselects (.extended .mode5) l x⟩
  · rw [render_of_some y (s := beginCommand s) halg]
    exact ⟨fun x => getElem_tabulate .., rfl, rfl⟩

/-- Settles O38: the mode has no algorithm, so RENDER is its diagnostic. -/
theorem renderUnsupportedModeKeepsRows : Obligations.RenderUnsupportedModeKeepsRows := by
  intro y s hy hmode
  have halg : displayAlgorithm (displayMode (beginCommand s).cfg) = none := (displayAlgorithm_eq_none_iff _).mpr hmode
  refine ⟨_, execRender_eq hy s, ?_⟩
  rw [render_of_none y halg]
  refine ⟨rfl, rfl, ?_, ?_, ?_, rfl⟩
  · simp [unsupportedModeFlag, raiseBit, DiagCode.bit]
  · simp [presentFailFlag, raiseBit, DiagCode.bit]
  · simp [Out.none, raiseBit, DiagCode.bit]

/-- A sample reads VRAM by its bytes only. -/
theorem sampleOf_congr {vram vram' : Memory} (h : memByte vram = memByte vram') (alg : DisplayAlgorithm) (cfg : CfgRegs)
    (l : Fin 4) (x : Fin 256) (y : Line) : sampleOf alg cfg vram l x y = sampleOf alg cfg vram' l x y := by
  have htile : ∀ r, tileSample r vram x y = tileSample r vram' x y := fun r => by
    simp only [tileSample, vramRead1, vramRead2, h]
  cases alg with
  | tile0 | tile1 => exact htile _
  | extended m => simp only [sampleOf, h]

theorem composeA_congr {vram vram' : Memory} (h : memByte vram = memByte vram') (alg : DisplayAlgorithm) (cfg : CfgRegs)
    (derived : Vector Colour 256) (y : Line) : composeA alg cfg vram derived y = composeA alg cfg vram' derived y := by
  funext x
  simp only [composeA, sampleOf_congr h]

/-- Settles O41: in a supported mode both rows are functions of the inputs on which the states agree. -/
theorem renderReadsOnlyItsInputs : Obligations.RenderReadsOnlyItsInputs := by
  intro y s s' t t' hcfg hbytes hderived hmode hexec hexec'
  obtain ⟨-, rfl⟩ := (exec_next_iff _ s t).mp hexec
  obtain ⟨-, rfl⟩ := (exec_next_iff _ s' t').mp hexec'
  obtain ⟨alg, halg⟩ := exists_displayAlgorithm hmode
  have hvram : memByte s.vram = memByte s'.vram := funext hbytes
  have halg' : displayAlgorithm (displayMode s'.cfg) = some alg := hcfg ▸ halg
  rw [effect, effect, render_of_some y (s := beginCommand s) halg, render_of_some y (s := beginCommand s') halg']
  simp only [beginCommand_cfg, beginCommand_vram, beginCommand_derived, hcfg, hderived, hvram, composeA_congr hvram,
    and_self]

/-! ### The tile sampler's fields (`10_state.md` R20, R23, `30_encoding.md` R77, R81) -/

theorem getLsbD_iff {w : Nat} (v : BitVec w) (k : Nat) : v.getLsbD k = true ↔ v.toNat / 2 ^ k % 2 = 1 := by
  rw [← BitVec.testBit_toNat, Nat.testBit_eq_decide_div_mod_eq, decide_eq_true_iff]

theorem layerDepth8_iff (r : LayerRegs) : layerDepth8 r = true ↔ r.bgctl.toNat / 8 % 2 = 1 := getLsbD_iff _ 3

theorem layerSizeClass_toNat (r : LayerRegs) : (layerSizeClass r).toNat = r.bgctl.toNat / 16 % 4 := toNat_extract ..

theorem layerScrollX_toNat (r : LayerRegs) : (layerScrollX r).toNat = r.scrollX.toNat % 65536 := by
  rw [layerScrollX, toNat_extract]
  omega

theorem layerScrollY_toNat (r : LayerRegs) : (layerScrollY r).toNat = r.scrollY.toNat % 65536 := by
  rw [layerScrollY, toNat_extract]
  omega

theorem mapWidth_eq (s : BitVec 2) : mapWidth s = if s.toNat % 2 = 1 then 512 else 256 := by
  revert s
  decide

theorem mapHeight_eq (s : BitVec 2) : mapHeight s = if s.toNat / 2 = 1 then 512 else 256 := by
  revert s
  decide

theorem entryTile_toNat (e : BitVec 16) : (entryTile e).toNat = e.toNat % 1024 := by
  rw [entryTile, toNat_extract]
  omega

theorem entryBank_toNat (e : BitVec 16) : (entryBank e).toNat = e.toNat / 4096 := by
  rw [entryBank, toNat_extract]
  omega

theorem inTile_entryHflip (e : BitVec 16) (p : Nat) :
    inTile (entryHflip e) p = if e.toNat / 1024 % 2 = 1 then 7 - p % 8 else p % 8 :=
  if_congr (getLsbD_iff e 10) rfl rfl

theorem inTile_entryVflip (e : BitVec 16) (p : Nat) :
    inTile (entryVflip e) p = if e.toNat / 2048 % 2 = 1 then 7 - p % 8 else p % 8 :=
  if_congr (getLsbD_iff e 11) rfl rfl

/-! ### The tile sampler (R141 to R147) -/

/-- The two-byte read at the address of a natural number. -/
theorem vramRead2_ofNat_toNat (m : Memory) (n : Nat) :
    (vramRead2 m (BitVec.ofNat 32 n)).toNat =
      (memByte m (BitVec.ofNat 32 n)).toNat + 256 * (memByte m (BitVec.ofNat 32 (n + 1))).toNat := by
  rw [vramRead2, toNat_append_eq_add, BitVec.ofNat_add]
  omega

theorem pixelNibble_toNat (b : Byte) (fx : Nat) :
    (pixelNibble b fx).toNat = if fx % 2 = 0 then b.toNat % 16 else b.toNat / 16 := by
  unfold pixelNibble
  split <;> rw [toNat_extract] <;> omega

theorem sample4_eq (bank v : BitVec 4) :
    sample4 bank v = if v.toNat = 0 then .transparent else .indexed (BitVec.ofNat 8 (bank.toNat * 16 + v.toNat)) :=
  if_congr (eq_zero_iff_toNat v) rfl rfl

theorem sample8_eq (v : Byte) :
    sample8 v = if v.toNat = 0 then .transparent else .indexed (BitVec.ofNat 8 v.toNat) := by
  rw [BitVec.ofNat_toNat, BitVec.setWidth_eq]
  exact if_congr (eq_zero_iff_toNat v) rfl rfl

/-- Settles O39: the map coordinates, the map entry and the pixel fetch, each by its rule. -/
theorem tileSampleFollowsAddressRules : Obligations.TileSampleFollowsAddressRules := by
  intro cfg vram l x y r byteAt sc w h px py tx ty blk ea e fx fy b4 v4 v8 sample
  have hw : mapWidth (layerSizeClass r) = w := by rw [mapWidth_eq, layerSizeClass_toNat]
  have hh : mapHeight (layerSizeClass r) = h := by rw [mapHeight_eq, layerSizeClass_toNat]
  have hpx : mapX r x = px := by rw [mapX, layerScrollX_toNat, hw]
  have hpy : mapY r y = py := by rw [mapY, layerScrollY_toNat, hh]
  have hea : mapEntryAddr r px py = BitVec.ofNat 32 ea := by rw [mapEntryAddr, hw]
  have he : (vramRead2 vram (BitVec.ofNat 32 ea)).toNat = e := vramRead2_ofNat_toNat vram ea
  have hsample : tileSample r vram x y = sample := by
    simp only [tileSample, hpx, hpy, hea, inTile_entryHflip, inTile_entryVflip, tileAddr4, tileAddr8, entryTile_toNat,
      sample4_eq, sample8_eq, entryBank_toNat, pixelNibble_toNat, he, layerDepth8_iff, vramRead1]
    rfl
  exact ⟨hsample, hsample⟩

/-! ### What a tile sample names (R140, R144, R146) -/

theorem sample8_ne_direct (v : Byte) (c : RawColour) : sample8 v ≠ .direct c := by
  unfold sample8
  split <;> simp

theorem sample4_ne_direct (bank v : BitVec 4) (c : RawColour) : sample4 bank v ≠ .direct c := by
  unfold sample4
  split <;> simp

theorem sample8_indexed_ne_zero {v : Byte} {i : BitVec 8} (h : sample8 v = .indexed i) : i.toNat ≠ 0 := by
  unfold sample8 at h
  split at h
  · cases h
  · next hv =>
    cases h
    rwa [Ne, ← eq_zero_iff_toNat]

/-- The low four bits of a 4-bit sample's index are the pixel, which is not 0. -/
theorem sample4_indexed_mod_ne_zero {bank v : BitVec 4} {i : BitVec 8} (h : sample4 bank v = .indexed i) :
    i.toNat % 16 ≠ 0 := by
  rw [sample4_eq] at h
  split at h
  · cases h
  · next hv =>
    cases h
    rw [BitVec.toNat_ofNat]
    omega

/-- The depth selects the kind of pixel a tile sample is. -/
theorem tileSample_cases (r : LayerRegs) (vram : Memory) (x : Fin 256) (y : Line) :
    (layerDepth8 r = true ∧ ∃ v, tileSample r vram x y = sample8 v) ∨
      ∃ bank v, tileSample r vram x y = sample4 bank v := by
  cases hdepth : layerDepth8 r with
  | true => exact .inl ⟨rfl, _, if_pos hdepth⟩
  | false => exact .inr ⟨_, _, if_neg (by simp [hdepth])⟩

/-- Settles O40: by the two kinds of pixel. -/
theorem tileSamplesNameShownEntries : Obligations.TileSamplesNameShownEntries := by
  intro cfg vram l x y
  rw [sampleOf]
  obtain ⟨hdepth, v, hsample⟩ | ⟨bank, v, hsample⟩ := tileSample_cases cfg.layers[l] vram x y
  · rw [hsample]
    refine ⟨sample8_ne_direct v, fun i hi => ⟨sample8_indexed_ne_zero hi, fun hshallow => ?_⟩⟩
    rw [hdepth] at hshallow
    contradiction
  · rw [hsample]
    refine ⟨sample4_ne_direct bank v, fun i hi => ?_⟩
    have hmod : i.toNat % 16 ≠ 0 := sample4_indexed_mod_ne_zero hi
    exact ⟨by omega, fun _ => hmod⟩

end Sys2Proof.Machine
end

section
/-!
Proofs for `43_framebuffer.md`: LINECOPY (R170), LINEFILL (R171), a frame under forced blank (R172), and PRESENT (R173).
-/

namespace Sys2Proof.Machine

/-! ### A line of the frame buffer (`20_memory.md` R44) -/

/-- Entry `k` has the index of a pixel of line `y`, of screen A or of screen B; a line for `y` at most 191. -/
def OnLine (y : Line) (k : Fin 98304) : Prop :=
  ∃ x : Fin 256, k.val = fbIndexA y.toNat x ∨ k.val = fbIndexB y.toNat x

theorem not_onLine_iff (y : Line) (k : Fin 98304) :
    ¬ OnLine y k ↔ ∀ x : Fin 256, k.val ≠ fbIndexA y.toNat x ∧ k.val ≠ fbIndexB y.toNat x := by
  simp [OnLine]

/-- Every entry is a pixel of a line of the active region. -/
theorem exists_onLine (k : Fin 98304) : ∃ y : Line, y.toNat ≤ 191 ∧ OnLine y k := by
  have hline (y : Fin 192) : (BitVec.ofNat 9 y.val).toNat = y.val := by
    rw [BitVec.toNat_ofNat]
    omega
  obtain hA | hB := Nat.lt_or_ge k.val 49152
  · obtain ⟨y, x, hk⟩ := (exists_fbIndexA_iff k).mpr hA
    exact ⟨BitVec.ofNat 9 y.val, by rw [hline]; omega, x, .inl (by rw [hline, hk])⟩
  · obtain ⟨y, x, hk⟩ := (exists_fbIndexB_iff k).mpr hB
    exact ⟨BitVec.ofNat 9 y.val, by rw [hline]; omega, x, .inr (by rw [hline, hk])⟩

@[simp] theorem getElem_whiteRow (x : Nat) (hx : x < 256) : whiteRow[x] = whiteFill := Vector.getElem_replicate hx

section
variable {y : Line} {k : Fin 98304} (fb : FrameBuffer) (a b : Row)

theorem entry_fbWriteLine_of_fbIndexA (hy : y.toNat ≤ 191) {x : Fin 256} (hk : k.val = fbIndexA y.toNat x) :
    (fbWriteLine fb y a b).entry k = a[x] := by
  rw [entry_of_fbIndexA (y := ⟨y.toNat, by omega⟩) _ hk]
  simp [fbWriteLine]

theorem entry_fbWriteLine_of_fbIndexB (hy : y.toNat ≤ 191) {x : Fin 256} (hk : k.val = fbIndexB y.toNat x) :
    (fbWriteLine fb y a b).entry k = b[x] := by
  rw [entry_of_fbIndexB (y := ⟨y.toNat, by omega⟩) _ hk]
  simp [fbWriteLine]

/-- Writing a line leaves the entries of the other lines alone. -/
theorem entry_fbWriteLine_of_not_onLine (hk : ¬ OnLine y k) : (fbWriteLine fb y a b).entry k = fb.entry k := by
  simp only [not_onLine_iff, fbIndexA, fbIndexB] at hk
  rw [entry_fbWriteLine]
  split
  · obtain ⟨hA, -⟩ := hk ⟨k.val % 256, by omega⟩
    exact if_neg fun hrow => hA (by simp only; omega)
  · obtain ⟨-, hB⟩ := hk ⟨(k.val - 49152) % 256, by omega⟩
    exact if_neg fun hrow => hB (by simp only; omega)

theorem entry_fbWriteLine_whiteRow (hy : y.toNat ≤ 191) (hk : OnLine y k) :
    (fbWriteLine fb y whiteRow whiteRow).entry k = whiteFill := by
  obtain ⟨x, hA | hB⟩ := hk
  · exact (entry_fbWriteLine_of_fbIndexA fb _ _ hy hA).trans (getElem_whiteRow x x.isLt)
  · exact (entry_fbWriteLine_of_fbIndexB fb _ _ hy hB).trans (getElem_whiteRow x x.isLt)

/-- A white line, wherever it is written, leaves a white entry white. -/
theorem entry_fbWriteLine_whiteRow_of_white (hwhite : fb.entry k = whiteFill) :
    (fbWriteLine fb y whiteRow whiteRow).entry k = whiteFill := by
  simp [entry_fbWriteLine, hwhite]

end

/-! ### LINECOPY and LINEFILL (R170, R171) -/

/-- Settles O43: the line's entries by their indices, and the others as those on no such index. -/
theorem linecopyWritesItsLine : Obligations.LinecopyWritesItsLine := by
  intro y s hy
  exact ⟨_, execLinecopy_eq hy s, fun k x hk => entry_fbWriteLine_of_fbIndexA s.fb s.lineA s.lineB hy hk,
    fun k x hk => entry_fbWriteLine_of_fbIndexB s.fb s.lineA s.lineB hy hk,
    fun k hk => entry_fbWriteLine_of_not_onLine s.fb s.lineA s.lineB ((not_onLine_iff y k).mpr hk), rfl⟩

/-- Settles O44: LINECOPY's write with two white rows. -/
theorem linefillWhitensItsLine : Obligations.LinefillWhitensItsLine := by
  intro y s hy
  exact ⟨_, execLinefill_eq hy s, fun k x hk => entry_fbWriteLine_whiteRow s.fb hy ⟨x, hk⟩,
    fun k hk => entry_fbWriteLine_of_not_onLine s.fb whiteRow whiteRow ((not_onLine_iff y k).mpr hk), rfl⟩

/-! ### PRESENT (R173) -/

/-- Settles O45: the hand-over alone, or with its diagnostic when the sink answers failure. -/
theorem presentHandsOverFrame : Obligations.PresentHandsOverFrame := by
  intro s
  refine ⟨present (beginCommand s), rfl, ?_⟩
  obtain hsink | hsink := Bool.eq_false_or_eq_true s.sinkOk
  · rw [present_of_ok (s := beginCommand s) hsink]
    exact ⟨fun k => rfl, by simp [presentFailFlag, hsink], rfl, by simp [hsink, Out.none], rfl⟩
  · rw [present_of_fail (s := beginCommand s) hsink]
    refine ⟨fun k => rfl, ?_, ?_, ?_, rfl⟩
    · simp [presentFailFlag, raiseBit, DiagCode.bit, hsink]
    · simp [unsupportedModeFlag, raiseBit, DiagCode.bit]
    · simp [Out.none, raiseBit, DiagCode.bit, hsink]

/-! ### A frame under forced blank (R172) -/

/-- Under forced blank the service of EnterHBlank whitens the line, and the others leave the frame buffer alone. -/
theorem service_fb_cases (e : PhaseEvent) {s : State} (hblank : forcedBlank s.cfg = true) :
    (∀ y, e ≠ .enterHBlank y) ∧ (service e s).fb = s.fb ∨
      ∃ y, e = .enterHBlank y ∧ (service e s).fb = fbWriteLine s.fb y whiteRow whiteRow := by
  cases e with
  | enterDraw y => exact .inl ⟨nofun, rfl⟩
  | enterHBlank y => exact .inr ⟨y, rfl, by simp [service, serviceHBlank_eq, hblank]⟩
  | enterVBlank y => exact .inl ⟨nofun, present_fb s⟩

/-- Under forced blank an ADVANCE that enters HBlank whitens the line, and another leaves the frame buffer alone. -/
theorem effect_advance_fb_cases {s : State} (hblank : forcedBlank s.cfg = true) :
    (∀ y, (effect .advance s).out.event ≠ some (.enterHBlank y)) ∧ (effect .advance s).fb = s.fb ∨
      ∃ y, (effect .advance s).out.event = some (.enterHBlank y) ∧
        (effect .advance s).fb = fbWriteLine s.fb y whiteRow whiteRow := by
  obtain ⟨hnone, heffect⟩ | ⟨m, e, -, hsome, heffect⟩ := effect_advance_cases s
  · exact .inl ⟨by simp [hnone], by rw [heffect]; rfl⟩
  · rw [hsome, heffect]
    simp only [ne_eq, Option.some_inj]
    exact service_fb_cases e (s := emit e (beginCommand (timingEntered m s))) hblank

@[simp] theorem effect_advance_cfg (s : State) : (effect .advance s).cfg = s.cfg := effect_cfg (by simp) (by simp) s

section
variable {k : Fin 98304} {s : State} (hblank : forcedBlank s.cfg = true)
include hblank

theorem entry_effect_advance_of_white (hwhite : s.fb.entry k = whiteFill) :
    (effect .advance s).fb.entry k = whiteFill := by
  obtain ⟨-, hfb⟩ | ⟨y, -, hfb⟩ := effect_advance_fb_cases hblank
  · rw [hfb, hwhite]
  · rw [hfb, entry_fbWriteLine_whiteRow_of_white s.fb hwhite]

theorem entry_effect_advance_of_event {y : Line} (hy : y.toNat ≤ 191) (hk : OnLine y k)
    (hevent : (effect .advance s).out.event = some (.enterHBlank y)) :
    (effect .advance s).fb.entry k = whiteFill := by
  obtain ⟨hother, -⟩ | ⟨y', hevent', hfb⟩ := effect_advance_fb_cases hblank
  · exact absurd hevent (hother y)
  · cases hevent.symm.trans hevent'
    rw [hfb, entry_fbWriteLine_whiteRow s.fb hy hk]

end

/-- Commands that are all well formed complete one after another. -/
theorem exists_execAll_next {is : List Instr} (hwf : ∀ i ∈ is, i.wellFormed = true) (s : State) :
    ∃ t, execAll is s = .next t := by
  induction is generalizing s with
  | nil => exact ⟨s, rfl⟩
  | cons i is ih =>
    obtain ⟨hi, his⟩ := List.forall_mem_cons.mp hwf
    obtain ⟨t, hexec⟩ := ih his (effect i s)
    exact ⟨t, (execAll_cons_next_iff i is s t).mpr ⟨hi, hexec⟩⟩

/-- Under forced blank ADVANCE commands leave a white entry white. -/
theorem entry_execAll_advances_of_white {k : Fin 98304} {n : Nat} {s t : State}
    (hexec : execAll (advances n) s = .next t) (hblank : forcedBlank s.cfg = true)
    (hwhite : s.fb.entry k = whiteFill) : t.fb.entry k = whiteFill := by
  have hboth : forcedBlank t.cfg = true ∧ t.fb.entry k = whiteFill := by
    refine execAll_keeps (P := fun u => forcedBlank u.cfg = true ∧ u.fb.entry k = whiteFill) hexec ?_ ⟨hblank, hwhite⟩
    intro i hi u ⟨hblank, hwhite⟩
    rw [List.eq_of_mem_replicate hi, effect_advance_cfg]
    exact ⟨hblank, entry_effect_advance_of_white hblank hwhite⟩
  exact hboth.2

/-- Under forced blank the lines whose EnterHBlank is among the events are white in the end. -/
theorem entry_execAll_advances_of_event {y : Line} (hy : y.toNat ≤ 191) {k : Fin 98304} (hk : OnLine y k) {n : Nat}
    {s t : State} (hexec : execAll (advances n) s = .next t) (hblank : forcedBlank s.cfg = true)
    (hevent : .enterHBlank y ∈ eventsOf (advances n) s) : t.fb.entry k = whiteFill := by
  induction n generalizing s with
  | zero => exact absurd hevent List.not_mem_nil
  | succ n ih =>
    have hrest : execAll (advances n) (effect .advance s) = .next t := hexec
    have hblank' : forcedBlank (effect .advance s).cfg = true := by rw [effect_advance_cfg, hblank]
    obtain hfirst | hlater := List.mem_append.mp hevent
    · exact entry_execAll_advances_of_white hrest hblank'
        (entry_effect_advance_of_event hblank hy hk (Option.mem_toList.mp hfirst))
    · exact ih hrest hblank' hlater

/-- Settles O46: by the census of a frame's events (R110) every line of the active region enters HBlank in it. -/
theorem forcedBlankFrameIsWhite : Obligations.ForcedBlankFrameIsWhite := by
  intro s htiming hblank
  obtain ⟨t, hexec⟩ := exists_execAll_next (is := advances s.thresholds.cycFrame)
    (fun i hi => List.eq_of_mem_replicate hi ▸ rfl) s
  refine ⟨t, hexec, fun k => ?_⟩
  obtain ⟨y, hy, hk⟩ := exists_onLine k
  obtain ⟨-, hlines, -⟩ := frameEventCensus s htiming
  obtain ⟨honce, -⟩ := hlines y (Nat.lt_succ_of_le hy)
  exact entry_execAll_advances_of_event hy hk hexec hblank (List.count_pos_iff.mp (honce ▸ Nat.one_pos))

end Sys2Proof.Machine
end

section
/-!
Proofs for `44_control_ops.md`: what RESET and CFGWR write and leave unchanged (R190, R191), and the tile/map memory,
which no command writes (R196).
-/

namespace Sys2Proof.Machine

/-! ### RESET (R190) -/

/-- Settles O11: each row of the table by the rule of `resetBlock` for its field. -/
theorem resetWritesPowerOnValues : Obligations.ResetWritesPowerOnValues := by
  intro s
  refine ⟨effect .reset s, exec_of_wellFormed rfl s, rfl, rfl, rfl, cfgRead_resetBlock _, rfl, fun i => ?palette,
    entry_clearedFrameBuffer, rfl, rfl, fun _ => rfl, rfl, rfl, rfl, rfl, rfl, rfl⟩
  simp [effect]

/-! ### CFGWR (R191) -/

/-- A mask of the `k` low bits reduces a value modulo `2 ^ k`. -/
theorem toNat_and_lowMask {w k : Nat} (v : BitVec w) {m : BitVec w} (hm : m.toNat = 2 ^ k - 1) :
    (v &&& m).toNat = v.toNat % 2 ^ k := by
  rw [BitVec.toNat_and, hm, Nat.and_two_pow_sub_one_eq_mod]

/-- Settles O33: the two base registers take all 32 bits, every other register's mask keeps its low bits. -/
theorem cfgwrStoresUnderMask : Obligations.CfgwrStoresUnderMask := by
  intro r v s
  refine ⟨effect (.cfgwr r v) s, exec_of_wellFormed rfl s, ?stored, fun _ => cfgRead_cfgWrite_other s.cfg v, rfl⟩
  have hread : cfgRead (effect (.cfgwr r v) s).cfg r = v &&& writeMask r := cfgRead_cfgWrite_same s.cfg r v
  rw [hread]
  cases r with
  | dispctl | bgctl _ | bgscrollx _ | bgscrolly _ => exact toNat_and_lowMask v rfl
  | bgtilebase _ | bgmapbase _ => exact congrArg BitVec.toNat BitVec.and_allOnes

/-! ### The tile/map memory (R196) -/

/-- Settles O52: every command's `effect` keeps VRAM whole. -/
theorem noCommandWritesVram : Obligations.NoCommandWritesVram := by
  intro i s t hexec a
  obtain ⟨-, rfl⟩ := (exec_next_iff i s t).mp hexec
  rw [effect_vram]

end Sys2Proof.Machine
end

section
/-!
Proofs for `60_exceptions.md`: the idle step (R213), which the model makes of an empty command stream.
-/

namespace Sys2Proof.Machine

/-- The idle case of `step`. -/
theorem step_of_stream_nil {s : State} (hstream : s.stream = []) : step s = .next (idle s) := by
  simp only [step, hstream]

/-- Settles O7: the idle case of `step`, whose only write is the empty output record. -/
theorem idleStepKeepsState : Obligations.IdleStepKeepsState :=
  fun _ hstream => step_of_stream_nil hstream

end Sys2Proof.Machine
end

section
/-!
Proofs for `70_reset_and_hazards.md`: the first line after RESET (R232).
-/

namespace Sys2Proof.Machine

/-! ### The first event after RESET (R232) -/

/-- RESET starts the count of cycles anew. -/
theorem atCycle_effect_reset (s : State) : AtCycle s.thresholds 0 (effect .reset s) where
  timing := resetBlock_timingOk _
  thresholds_eq := rfl
  counter_eq := (Nat.zero_mod _).symm

/-- One more ADVANCE at the end of a run adds the event of its own cycle. -/
theorem AtCycle.eventsOf_advances_concat {p : Thresholds} {k : Nat} {s : State} (h : AtCycle p k s) (n : Nat) :
    eventsOf (advances (n + 1)) s = eventsOf (advances n) s ++ (eventOfCycle p (k + 1 + n)).toList := by
  rw [h.eventsOf_advances, h.eventsOf_advances, List.range'_1_concat, List.filterMap_append]
  cases hevent : eventOfCycle p (k + 1 + n) with
  | none => rw [List.filterMap_cons_none hevent, List.filterMap_nil, Option.toList_none]
  | some e => rw [List.filterMap_cons_some hevent, List.filterMap_nil, Option.toList_some]

/-- The end of Draw on line 0 (R108). -/
theorem eventOfCycle_cycDraw (p : Thresholds) : eventOfCycle p p.cycDraw = some (.enterHBlank 0#9) := by
  have hinFrame : p.cycDraw < p.cycFrame :=
    p.draw_lt_line.trans_le (Nat.le_mul_of_pos_left p.cycLine (show 0 < 263 by decide))
  rw [eventOfCycle_of_lt hinFrame, eventAt_eq_enterHBlank_iff]
  simp

/-- Settles O21: RESET puts the block at cycle 0, line 0 is silent up to the end of Draw, and that cycle's event is
EnterHBlank(0). -/
theorem firstEventAfterResetIsHBlank : Obligations.FirstEventAfterResetIsHBlank := by
  intro s t hexec
  obtain ⟨-, rfl⟩ := (exec_next_iff .reset s t).mp hexec
  have hat := atCycle_effect_reset s
  have hpos := s.thresholds.draw_pos
  have hstart : AtCycle s.thresholds (0 * s.thresholds.cycLine + 0) (effect .reset s) := by
    rwa [Nat.zero_mul]
  obtain ⟨hsilent, -⟩ := hstart.eventsOf_advances_of_active (show 0 < 192 by decide) hpos (.inl rfl) (.inr le_rfl)
  rw [Nat.sub_zero] at hsilent
  refine ⟨hsilent, ?_⟩
  calc eventsOf (advances s.thresholds.cycDraw) (effect .reset s)
    _ = eventsOf (advances (s.thresholds.cycDraw - 1 + 1)) (effect .reset s) := by rw [Nat.sub_add_cancel hpos]
    _ = (eventOfCycle s.thresholds (0 + 1 + (s.thresholds.cycDraw - 1))).toList := by
      rw [hat.eventsOf_advances_concat, hsilent, List.nil_append]
    _ = [.enterHBlank 0#9] := by
      rw [Nat.zero_add, Nat.add_sub_cancel' hpos, eventOfCycle_cycDraw, Option.toList_some]

end Sys2Proof.Machine
end
